-- ==== Sys2Proof/Word.lean ====
section
/-! DEFINITION. The word types of the block: widths only, fixed by 00_scope R8 and R10. -/

namespace Sys2Proof

/-- A byte (00_scope R8, R10): the unit of every stream and buffer. -/
abbrev Byte := BitVec 8

/-- A nibble (00_scope R10): one hex digit's value, or an error code. -/
abbrev Nibble := BitVec 4

/-- A 16-bit word: the command word, the CRC register, an answer's value, the counters, TXID. -/
abbrev Word := BitVec 16

/-- A 12-bit event word (30_encoding R75). -/
abbrev EventWord := BitVec 12

end Sys2Proof
end

