-- ==== Sys2Proof/Syntax.lean ====
section
/-! DEFINITION. The instructions of the block: one constructor per row of the opcode table, 20 commands (30_encoding
R72) and 5 events (R76); the words the two ports carry; and the names under which a word is rejected. -/

namespace Sys2Proof

/-- The operand of FR.CNT (44_framer_rx R201): k = 0 is MSGCNT, k = 1 is TOCNT. -/
inductive CounterSelect where
  | messages
  | timeouts
  deriving DecidableEq, Repr

/-- The CFB command set, version 1 (00_scope R2). -/
inductive Instr where
  /-- CRC.INIT (40_crc16 R102). -/
  | crcInit
  /-- CRC.UPD b (40_crc16 R103). -/
  | crcUpd (b : Byte)
  /-- CRC.RD (40_crc16 R104). -/
  | crcRd
  /-- CRC.CHK (40_crc16 R105). -/
  | crcChk
  /-- LRC.INIT (41_lrc R121). -/
  | lrcInit
  /-- LRC.UPD b (41_lrc R122). -/
  | lrcUpd (b : Byte)
  /-- LRC.RD (41_lrc R123). -/
  | lrcRd
  /-- LRC.CHK (41_lrc R124). -/
  | lrcChk
  /-- HEX.ENC b (42_hex R133). -/
  | hexEnc (b : Byte)
  /-- HEX.DEC c (42_hex R134). -/
  | hexDec (c : Byte)
  /-- FR.MODE m (43_framer_tx R141). m = 3 is legal to the decoder and rejected by the rule (30_encoding R74). -/
  | frMode (m : BitVec 2)
  /-- FR.CONNECT (45_link R211). -/
  | frConnect
  /-- FR.DISCONNECT (45_link R212). -/
  | frDisconnect
  /-- FR.TXCLR (43_framer_tx R142). -/
  | frTxclr
  /-- FR.TXPUSH b (43_framer_tx R143). -/
  | frTxpush (b : Byte)
  /-- FR.XACT (43_framer_tx R144). -/
  | frXact
  /-- FR.STAT (44_framer_rx R198). -/
  | frStat
  /-- FR.RXLEN (44_framer_rx R199). -/
  | frRxlen
  /-- FR.RXPOP (44_framer_rx R200). -/
  | frRxpop
  /-- FR.CNT k (44_framer_rx R201). -/
  | frCnt (k : CounterSelect)
  /-- Event @RX b (44_framer_rx R175). -/
  | evRx (b : Byte)
  /-- Event @TIMEOUT (44_framer_rx R197). -/
  | evTimeout
  /-- Event @IOFAIL (45_link R215). -/
  | evIofail
  /-- Event @LINKOK (45_link R213). -/
  | evLinkok
  /-- Event @LINKFAIL k (45_link R214). -/
  | evLinkfail (k : Nibble)
  deriving DecidableEq, Repr

/-- Whether an instruction is one of the 20 commands, each of which is answered; the other five are events, which are
not (30_encoding R78, 20_memory R52). -/
def Instr.isCommand : Instr → Bool
  | .evRx _ | .evTimeout | .evIofail | .evLinkok | .evLinkfail _ => false
  | .crcInit | .crcUpd _ | .crcRd | .crcChk | .lrcInit | .lrcUpd _ | .lrcRd | .lrcChk | .hexEnc _ | .hexDec _
  | .frMode _ | .frConnect | .frDisconnect | .frTxclr | .frTxpush _ | .frXact | .frStat | .frRxlen | .frRxpop
  | .frCnt _ => true

/-- A word on one of the two input ports (20_memory R50). -/
inductive PortWord where
  /-- A 16-bit word on the command port (30_encoding R70). -/
  | command (cw : Word)
  /-- A 12-bit word on the event port (30_encoding R75). -/
  | event (ew : EventWord)
  deriving DecidableEq, Repr

/-- Why a word is no instruction (30_encoding R74 for commands, R77 for events). -/
inductive DecodeError where
  /-- The opcode is none of the 20. -/
  | unknownOpcode (op : Byte)
  /-- A format N command with a non-zero operand. -/
  | operandNotZero (op arg : Byte)
  /-- FR.MODE with arg[7:2] not zero. -/
  | reservedModeBits (arg : Byte)
  /-- FR.CNT with arg[7:1] not zero. -/
  | reservedCounterBits (arg : Byte)
  /-- An event word of kind 0 or 6 to 15. -/
  | reservedEventKind (kind : Nibble)
  /-- An event whose unused data field is not zero. -/
  | eventDataNotZero (kind : Nibble) (data : Byte)
  /-- @LINKFAIL with data[7:4] not zero or a k outside its set. -/
  | reservedLinkfailKind (data : Byte)
  deriving DecidableEq, Repr

end Sys2Proof
end

