-- ==== Sys2Proof/WellFormed.lean ====
section
/-! DEFINITION. Which terms of Instr are instructions: the only operand set smaller than its type is @LINKFAIL's
(30_encoding R76, R77). FR.MODE 3 is well formed: it decodes and its rule rejects it (R74). -/

namespace Sys2Proof

/-- Every operand is one its encoding admits. -/
def Instr.wellFormed : Instr → Bool
  | .evLinkfail k => k = 2#4 || k = 8#4 || k = 10#4 || k = 11#4 || k = 12#4
  | .crcInit | .crcUpd _ | .crcRd | .crcChk | .lrcInit | .lrcUpd _ | .lrcRd | .lrcChk | .hexEnc _ | .hexDec _
  | .frMode _ | .frConnect | .frDisconnect | .frTxclr | .frTxpush _ | .frXact | .frStat | .frRxlen | .frRxpop
  | .frCnt _ | .evRx _ | .evTimeout | .evIofail | .evLinkok => true

end Sys2Proof
end

