-- ==== Sys2Proof/Decode.lean ====
section
/-! DEFINITION. The decoder, total on both ports' words and rejecting by name (30_encoding R70 to R77), and after it the
encoder, written from the same tables. -/

namespace Sys2Proof

/-- `op`, bits 15:8 of a command word (30_encoding R70). -/
def opField (cw : Word) : Byte := cw.extractLsb' 8 8

/-- `arg`, bits 7:0 of a command word (30_encoding R70). -/
def argField (cw : Word) : Byte := cw.extractLsb' 0 8

/-- `kind`, bits 11:8 of an event word (30_encoding R75). -/
def kindField (ew : EventWord) : Nibble := ew.extractLsb' 8 4

/-- `data`, bits 7:0 of an event word (30_encoding R75). -/
def dataField (ew : EventWord) : Byte := ew.extractLsb' 0 8

/-- Format N: `arg` is unused and must be zero (30_encoding R71). -/
def decodeN (op arg : Byte) (i : Instr) : Except DecodeError Instr :=
  if arg = 0#8 then .ok i else .error (.operandNotZero op arg)

/-- Format M: `m` is arg[1:0], arg[7:2] must be zero (30_encoding R71). -/
def decodeM (arg : Byte) : Except DecodeError Instr :=
  if arg.extractLsb' 2 6 = 0#6 then .ok (.frMode (arg.extractLsb' 0 2)) else .error (.reservedModeBits arg)

/-- Format K: `k` is arg[0], arg[7:1] must be zero (30_encoding R71). -/
def decodeK (arg : Byte) : Except DecodeError Instr :=
  if arg = 0#8 then .ok (.frCnt .messages)
  else if arg = 1#8 then .ok (.frCnt .timeouts)
  else .error (.reservedCounterBits arg)

/-- The opcode map (30_encoding R72). Every word outside it is illegal (R74). -/
def decodeCommand (cw : Word) : Except DecodeError Instr :=
  let op := opField cw
  let arg := argField cw
  match op.toNat with
  | 0x10 => decodeN op arg .crcInit
  | 0x11 => .ok (.crcUpd arg)
  | 0x12 => decodeN op arg .crcRd
  | 0x13 => decodeN op arg .crcChk
  | 0x20 => decodeN op arg .lrcInit
  | 0x21 => .ok (.lrcUpd arg)
  | 0x22 => decodeN op arg .lrcRd
  | 0x23 => decodeN op arg .lrcChk
  | 0x30 => .ok (.hexEnc arg)
  | 0x31 => .ok (.hexDec arg)
  | 0x40 => decodeM arg
  | 0x41 => decodeN op arg .frConnect
  | 0x42 => decodeN op arg .frDisconnect
  | 0x43 => decodeN op arg .frTxclr
  | 0x44 => .ok (.frTxpush arg)
  | 0x45 => decodeN op arg .frXact
  | 0x46 => decodeN op arg .frStat
  | 0x47 => decodeN op arg .frRxlen
  | 0x48 => decodeN op arg .frRxpop
  | 0x49 => decodeK arg
  | _ => .error (.unknownOpcode op)

/-- An event without an operand: its data must be zero (30_encoding R76). -/
def decodeNoData (kind : Nibble) (data : Byte) (i : Instr) : Except DecodeError Instr :=
  if data = 0#8 then .ok i else .error (.eventDataNotZero kind data)

/-- @LINKFAIL: k is data[3:0], data[7:4] is zero and k is in its set (30_encoding R76). -/
def decodeLinkfail (data : Byte) : Except DecodeError Instr :=
  let i := Instr.evLinkfail (data.extractLsb' 0 4)
  if data.extractLsb' 4 4 = 0#4 ∧ i.wellFormed = true then .ok i else .error (.reservedLinkfailKind data)

/-- The event map (30_encoding R76). Every word outside it is reserved (R77). -/
def decodeEvent (ew : EventWord) : Except DecodeError Instr :=
  let kind := kindField ew
  let data := dataField ew
  match kind.toNat with
  | 1 => .ok (.evRx data)
  | 2 => decodeNoData kind data .evTimeout
  | 3 => decodeNoData kind data .evIofail
  | 4 => decodeNoData kind data .evLinkok
  | 5 => decodeLinkfail data
  | _ => .error (.reservedEventKind kind)

/-- The decoder: what a port's word says. -/
def decode : PortWord → Except DecodeError Instr
  | .command cw => decodeCommand cw
  | .event ew => decodeEvent ew

/-- A command word from its two fields (30_encoding R70). -/
def commandWord (op arg : Byte) : PortWord := .command (op ++ arg)

/-- An event word from its two fields (30_encoding R75). -/
def eventWord (kind : Nibble) (data : Byte) : PortWord := .event (kind ++ data)

/-- The operand of FR.CNT as a byte (30_encoding R71, format K). -/
def CounterSelect.operand : CounterSelect → Byte
  | .messages => 0#8
  | .timeouts => 1#8

/-- The encoder: an instruction's word, from the tables of 30_encoding R72 and R76. -/
def encode : Instr → PortWord
  | .crcInit => commandWord 0x10#8 0#8
  | .crcUpd b => commandWord 0x11#8 b
  | .crcRd => commandWord 0x12#8 0#8
  | .crcChk => commandWord 0x13#8 0#8
  | .lrcInit => commandWord 0x20#8 0#8
  | .lrcUpd b => commandWord 0x21#8 b
  | .lrcRd => commandWord 0x22#8 0#8
  | .lrcChk => commandWord 0x23#8 0#8
  | .hexEnc b => commandWord 0x30#8 b
  | .hexDec c => commandWord 0x31#8 c
  | .frMode m => commandWord 0x40#8 (0#6 ++ m)
  | .frConnect => commandWord 0x41#8 0#8
  | .frDisconnect => commandWord 0x42#8 0#8
  | .frTxclr => commandWord 0x43#8 0#8
  | .frTxpush b => commandWord 0x44#8 b
  | .frXact => commandWord 0x45#8 0#8
  | .frStat => commandWord 0x46#8 0#8
  | .frRxlen => commandWord 0x47#8 0#8
  | .frRxpop => commandWord 0x48#8 0#8
  | .frCnt k => commandWord 0x49#8 k.operand
  | .evRx b => eventWord 1#4 b
  | .evTimeout => eventWord 2#4 0#8
  | .evIofail => eventWord 3#4 0#8
  | .evLinkok => eventWord 4#4 0#8
  | .evLinkfail k => eventWord 5#4 (0#4 ++ k)

/-- Whether a word is an instruction. -/
def accepted (p : PortWord) : Bool :=
  match decode p with
  | .ok _ => true
  | .error _ => false

/-- The port word that an opcode-table row's bits stand for. The table's event rows have 12 bits and its command rows 16;
in whole bytes both are 16, so a number below 2^12 that is an event is taken as one (no command word is below 0x1000).
DESIGN CHOICE (log 9): this is the host's numbering, no rule of the block. -/
def portWordOfTable (nbits w : Nat) : PortWord :=
  let ev := PortWord.event (BitVec.ofNat 12 w)
  if nbits ≤ 12 then ev
  else if w < 0x1000 ∧ accepted ev = true then ev
  else .command (BitVec.ofNat 16 w)

/-- The instruction the decoder reads from an opcode-table word. -/
def decodeTableWord (nbits w : Nat) : Option Instr :=
  match decode (portWordOfTable nbits w) with
  | .ok i => some i
  | .error _ => none

end Sys2Proof
end

