-- ==== Sys2Proof/Machine/Parameters.lean ====
section
/-! DEFINITION. The fixed parameters of 00_scope R8, each the number the spec gives. -/

namespace Sys2Proof.Machine

/-- The CRC polynomial in reflected form (00_scope R8; 93_implementation_defined G1). -/
def crcPolynomial : Word := 0xA001#16

/-- The CRC initial value (00_scope R8; 93_implementation_defined G1). -/
def crcInitial : Word := 0xFFFF#16

/-- TXCAP, the capacity of the transmit buffer. -/
def txCapacity : Nat := 256

/-- RXCAP, the capacity of the response buffer. -/
def rxCapacity : Nat := 258

/-- ACAP, the capacity of the ASCII decode window. -/
def asciiCapacity : Nat := 259

/-- MIN_RTU, the RTU minimum-length threshold. -/
def minRtu : Nat := 5

/-- `:`, the ASCII start delimiter (00_scope R3). -/
def colon : Byte := 0x3A#8

/-- CR, first byte of the ASCII end delimiter (00_scope R3). -/
def carriageReturn : Byte := 0x0D#8

/-- LF, second byte of the ASCII end delimiter (00_scope R3). -/
def lineFeed : Byte := 0x0A#8

end Sys2Proof.Machine
end

