-- ==== Sys2Proof/Machine/Checksum.lean ====
section
/-! DEFINITION. The checksum functions: CRC-16 (40_crc16 R100, R101, R106) and LRC (41_lrc R120, R125). They are pure;
the framer uses them without touching the registers CRC and SUM (43_framer_tx R153). -/

namespace Sys2Proof.Machine

/-- One of the eight shift steps of 40_crc16 R100. -/
def crcShift (c : Word) : Word := if c.getLsbD 0 then (c >>> 1) ^^^ crcPolynomial else c >>> 1

/-- `n` shift steps. -/
def crcShifts : Nat → Word → Word
  | 0, c => c
  | n + 1, c => crcShifts n (crcShift c)

/-- `crc16_step(c, b)` (40_crc16 R100): the byte enters the low byte, then eight shift steps. -/
def crc16Step (c : Word) (b : Byte) : Word := crcShifts 8 (c ^^^ b.setWidth 16)

/-- `crc16(s)` (40_crc16 R101). -/
def crc16 (s : List Byte) : Word := s.foldl crc16Step crcInitial

/-- The low byte of a 16-bit value, `v[7:0]`. -/
def lowByte (v : Word) : Byte := v.extractLsb' 0 8

/-- The high byte of a 16-bit value, `v[15:8]`. -/
def highByte (v : Word) : Byte := v.extractLsb' 8 8

/-- `crc_ok(F)` (40_crc16 R106): the CRC of all but the last two bytes is the number those two make, low byte first. -/
def crcOk (f : List Byte) : Bool :=
  decide (2 ≤ f.length ∧
    crc16 (f.take (f.length - 2)) =
      (f.getD (f.length - 2) 0#8).setWidth 16 ||| ((f.getD (f.length - 1) 0#8).setWidth 16 <<< 8))

/-- The byte sum modulo 256 (41_lrc R120, `t`). -/
def byteSum (s : List Byte) : Byte := s.foldl (· + ·) 0#8

/-- The two's complement of an 8-bit sum, `(256 - t) mod 256` (41_lrc R120). -/
def negateSum (t : Byte) : Byte := BitVec.ofNat 8 (256 - t.toNat)

/-- `lrc(s)` (41_lrc R120). -/
def lrc (s : List Byte) : Byte := negateSum (byteSum s)

/-- `lrc_ok(B)` (41_lrc R125): the LRC of all but the last byte is the last byte. -/
def lrcOk (b : List Byte) : Bool :=
  decide (1 ≤ b.length ∧ lrc (b.take (b.length - 1)) = b.getD (b.length - 1) 0#8)

end Sys2Proof.Machine
end

