-- ==== Sys2Proof/Config.lean ====
section
/-! DEFINITION. The configuration of a block instance (00_scope R9): the two open parameters RESYNC_CAP and SHAPE,
as plain data. What the shape table says of a byte is Machine/Shape.lean. -/

namespace Sys2Proof

/-- The class of a response, which gives its length (44_framer_rx R171). -/
inductive ShapeClass where
  /-- The message is exactly `n` bytes long, unit and function included; 2 ≤ n ≤ 258. -/
  | fixed (n : Nat)
  /-- The third byte is a byte count; the message is 3 + that many bytes. -/
  | counted
  /-- The block cannot tell the length. -/
  | unknown
  deriving DecidableEq, Repr

/-- One row of a shape table: the class of every function byte from `lo` to `hi`, both included. -/
structure ShapeRow where
  lo : Byte
  hi : Byte
  cls : ShapeClass
  deriving DecidableEq, Repr

/-- The open parameters of 00_scope R9. DESIGN CHOICE (log 5): SHAPE is held as rows, so that it is plain data. A byte
in no row is UNKNOWN, and of two rows that hold a byte the first one counts; every total function of a byte is such a table. -/
structure Config where
  /-- RESYNC_CAP, at least 1. -/
  resyncCap : Nat
  /-- SHAPE. -/
  shapeRows : List ShapeRow
  deriving DecidableEq, Repr

/-- How far RESYNC_CAP of the reset configuration lies above its least value 1. It has no value: 00_scope R9 gives no
default and 92_eei_decisions D18 says any fixed number would be invented. Safe (log 6). -/
opaque Config.capAboveOne : Nat

end Sys2Proof
end

