-- ==== Sys2Proof/Machine/Shape.lean ====
section
/-! DEFINITION. Response shapes: what a shape table says of a function byte, DEFAULT_SHAPE (44_framer_rx R172), body_len
and shape_ok (R173, R174). -/

namespace Sys2Proof.Machine

/-- The first row that holds the byte gives its class; a byte in no row is UNKNOWN (44_framer_rx R171). -/
def lookupShape : List ShapeRow → Byte → ShapeClass
  | [], _ => .unknown
  | r :: rs, f => if r.lo.toNat ≤ f.toNat ∧ f.toNat ≤ r.hi.toNat then r.cls else lookupShape rs f

/-- `SHAPE(f)`. -/
def shapeOf (c : Config) (f : Byte) : ShapeClass := lookupShape c.shapeRows f

/-- `DEFAULT_SHAPE` (44_framer_rx R172). Function 0x2B and every value not named are UNKNOWN. -/
def defaultShape : List ShapeRow :=
  [⟨0x01#8, 0x04#8, .counted⟩,
   ⟨0x05#8, 0x06#8, .fixed 6⟩,
   ⟨0x07#8, 0x07#8, .fixed 3⟩,
   ⟨0x0B#8, 0x0B#8, .fixed 6⟩,
   ⟨0x0C#8, 0x0C#8, .counted⟩,
   ⟨0x0F#8, 0x10#8, .fixed 6⟩,
   ⟨0x11#8, 0x11#8, .counted⟩,
   ⟨0x80#8, 0xFF#8, .fixed 3⟩]

/-- `body_len(M)` (44_framer_rx R173): the message's length, once the prefix is long enough to know it. -/
def bodyLen (c : Config) (m : List Byte) : Option Nat :=
  match m with
  | [] => none
  | [_] => none
  | _ :: f :: rest =>
    match shapeOf c f with
    | .fixed n => some n
    | .counted =>
      match rest with
      | [] => none
      | count :: _ => some (3 + count.toNat)
    | .unknown => none

/-- `shape_ok(M)` (44_framer_rx R174). -/
def shapeOk (c : Config) (m : List Byte) : Bool := decide (bodyLen c m = some m.length)

/-- The configuration of the reset state: DEFAULT_SHAPE, the spec's default (00_scope R9), and a RESYNC_CAP of which only
"at least 1" is known. DESIGN CHOICE (log 6). -/
def defaultConfig : Config := { resyncCap := Config.capAboveOne + 1, shapeRows := defaultShape }

end Sys2Proof.Machine
end

