-- ==== Sys2Proof/Machine/State.lean ====
section
/-! DEFINITION. The state of the block: everything 10_state R20 gives it, the two output streams, the inputs still to be
taken, and the configuration it runs under. Plain data. -/

namespace Sys2Proof.Machine

/-- MODE, the wire format (10_state R23). The value 3 is never held. -/
inductive Mode where
  | rtu
  | ascii
  | bridge
  deriving DecidableEq, Repr

/-- PH, the transaction phase (10_state R24). -/
inductive Phase where
  | idle
  | wait
  deriving DecidableEq, Repr

/-- ASTATE, the ASCII receive sub-state (10_state R24). -/
inductive AsciiState where
  | hunt
  | body
  | cr
  deriving DecidableEq, Repr

/-- LINK, the connection state (10_state R25). The value 3 is never held. -/
inductive Link where
  | disconnected
  | connecting
  | connected
  deriving DecidableEq, Repr

/-- The error kinds (60_exceptions R230). -/
inductive ErrorKind where
  | notConnected
  | connectionFailure
  | responseTimeout
  | transactionFailure
  | invalidDataAddress
  | invalidDataType
  | invalidDataLength
  | invalidConfiguration
  | methodNotSupported
  | serialPortInUse
  | serialPortUnsupported
  | serialPortUnavailable
  | busy
  | illegalCommand
  deriving DecidableEq, Repr

/-- One answer on the response port (00_scope R13, 30_encoding R78). -/
structure Answer where
  st : Nibble
  val : Word
  deriving DecidableEq, Repr

/-- One input of the block (20_memory R58): a word on one of its ports, or reset (70_reset R260). -/
inductive Input where
  | word (p : PortWord)
  | reset
  deriving DecidableEq, Repr

/-- Where the model stops because a rule reads a buffer element that is not there. The spec gives such a state no rule and
its invariants exclude it (10_state R38, 00_scope R9); log 8. The block itself never stops. -/
inductive Fault where
  /-- Raised by the bridge echo checks (44_framer_rx R190) where TXBUF has no such byte. Safe: 10_state R38 item 3 excludes it. -/
  | missingCommandByte
  /-- Raised by FR.RXPOP (44_framer_rx R200) where RXPTR is past the end of RXBUF. Safe: 10_state R38 item 2 excludes it. -/
  | readPointerPastEnd
  /-- Raised by `complete` (44_framer_rx R195) on a message shorter than 2 bytes. Safe: 00_scope R9 requires n at least 2 in FIXED(n). -/
  | shortMessage
  deriving DecidableEq, Repr

/-- Why an input is no step of the block. -/
inductive Refusal where
  /-- Raised by `exec` for an instruction without a meaning; no arm raises it. Safe. -/
  | notModelled (mnemonic : String)
  /-- Raised by the step on a reserved event word and by @LINKFAIL on a reserved kind: "a model refuses such an input"
  (30_encoding R77). Safe: the environment never presents them (log 7). -/
  | reservedEvent
  deriving DecidableEq, Repr

/-- The state (10_state R20) with the model's own fields after it. -/
structure State where
  /-- CRC (10_state R21). -/
  crc : Word
  /-- SUM (10_state R22). -/
  sum : Byte
  /-- MODE (10_state R23). -/
  mode : Mode
  /-- PH (10_state R24). -/
  phase : Phase
  /-- ASTATE (10_state R24). -/
  astate : AsciiState
  /-- LINK (10_state R25). -/
  link : Link
  /-- TXBUF (10_state R26). -/
  txbuf : List Byte
  /-- TXID (10_state R27). -/
  txid : Word
  /-- RXW (10_state R28). -/
  rxw : List Byte
  /-- NIB (10_state R29). -/
  nib : Option Nibble
  /-- ITER (10_state R30). -/
  iter : Nat
  /-- RXBUF (10_state R31). -/
  rxbuf : List Byte
  /-- RXPTR (10_state R31). -/
  rxptr : Nat
  /-- DONE (10_state R32). -/
  done : Bool
  /-- EXC (10_state R32). -/
  exc : Bool
  /-- ERR (10_state R33). -/
  err : Nibble
  /-- LERR (10_state R33). -/
  lerr : Nibble
  /-- MSGCNT (10_state R35). -/
  msgcnt : Word
  /-- TOCNT (10_state R35). -/
  tocnt : Word
  /-- LINE_OUT since reset, oldest byte first: an output, recorded (20_memory R53; log 4). -/
  lineOut : List Byte
  /-- The answers given, oldest first: an output, recorded (10_state R36; log 3). -/
  answers : List Answer
  /-- The inputs still to be taken, next one first: what the outside presents (20_memory R58, 70_reset R270; log 1). -/
  inputs : List Input
  /-- The configuration, changed by nothing (10_state R37; log 5). -/
  cfg : Config
  deriving DecidableEq, Repr

/-- The state right after reset (10_state R39), nothing presented. -/
def State.reset : State where
  crc := 0xFFFF#16
  sum := 0x00#8
  mode := .rtu
  phase := .idle
  astate := .hunt
  link := .disconnected
  txbuf := []
  txid := 0#16
  rxw := []
  nib := none
  iter := 0
  rxbuf := []
  rxptr := 0
  done := false
  exc := false
  err := 0#4
  lerr := 0#4
  msgcnt := 0#16
  tocnt := 0#16
  lineOut := []
  answers := []
  inputs := []
  cfg := defaultConfig

/-- What a rule of the block ends in. -/
abbrev Result := Host.Outcome State Fault Refusal

end Sys2Proof.Machine
end

