-- ==== Sys2Proof/Machine/Flags.lean ====
section
/-! DEFINITION. The flags and the status register: codes of the encoded fields, BUSY, EXC's rule, and STATUS assembled
from the state (10_state R32, R34; 60_exceptions R230). The block has no arithmetic condition codes (10_state R32). -/

namespace Sys2Proof.Machine

/-- The 4-bit code of an error kind (60_exceptions R230). -/
def ErrorKind.code : ErrorKind → Nibble
  | .notConnected => 1#4
  | .connectionFailure => 2#4
  | .responseTimeout => 3#4
  | .transactionFailure => 4#4
  | .invalidDataAddress => 5#4
  | .invalidDataType => 6#4
  | .invalidDataLength => 7#4
  | .invalidConfiguration => 8#4
  | .methodNotSupported => 9#4
  | .serialPortInUse => 10#4
  | .serialPortUnsupported => 11#4
  | .serialPortUnavailable => 12#4
  | .busy => 13#4
  | .illegalCommand => 14#4

/-- The 2-bit value of MODE (10_state R23). -/
def Mode.code : Mode → BitVec 2
  | .rtu => 0#2
  | .ascii => 1#2
  | .bridge => 2#2

/-- The 2-bit value of LINK (10_state R25). -/
def Link.code : Link → BitVec 2
  | .disconnected => 0#2
  | .connecting => 1#2
  | .connected => 2#2

/-- BUSY: 1 exactly when PH = WAIT (10_state R32). -/
def State.busy (s : State) : Bool := decide (s.phase = .wait)

/-- Bit 7 of a function byte, the mark of an exception response (10_state R32). -/
def exceptionBit (f : Byte) : Bool := f.getLsbD 7

/-- A flag as a 16-bit number. -/
def flagWord (b : Bool) : Word := (BitVec.ofBool b).setWidth 16

/-- STATUS (10_state R34). -/
def State.status (s : State) : Word :=
  flagWord s.busy ||| (flagWord s.done <<< 1) ||| (flagWord s.exc <<< 2) ||| (s.link.code.setWidth 16 <<< 4) |||
    (s.mode.code.setWidth 16 <<< 6) ||| (s.err.setWidth 16 <<< 8) ||| (s.lerr.setWidth 16 <<< 12)

end Sys2Proof.Machine
end

