-- ==== Sys2Proof/Machine/Operands.lean ====
section
/-! DEFINITION. What the commands' and events' operands name (30_encoding R71, R73, R76). A byte operand is used as it
is; the other three are read here. -/

namespace Sys2Proof.Machine

/-- The mode a mode number names; 3 names none (10_state R23, 43_framer_tx R141). -/
def modeOfOperand (m : BitVec 2) : Option Mode :=
  match m.toNat with
  | 0 => some .rtu
  | 1 => some .ascii
  | 2 => some .bridge
  | _ => none

/-- The counter a counter select names (44_framer_rx R201). -/
def counterOf (k : CounterSelect) (s : State) : Word :=
  match k with
  | .messages => s.msgcnt
  | .timeouts => s.tocnt

/-- The error kind a @LINKFAIL operand names; every other k is reserved (30_encoding R76, R77). -/
def linkfailKind (k : Nibble) : Option ErrorKind :=
  match k.toNat with
  | 2 => some .connectionFailure
  | 8 => some .invalidConfiguration
  | 10 => some .serialPortInUse
  | 11 => some .serialPortUnsupported
  | 12 => some .serialPortUnavailable
  | _ => none

end Sys2Proof.Machine
end

