-- ==== Sys2Proof/Machine/Ops.lean ====
section
/-! DEFINITION. The shared operations: answering (00_scope R13), rejecting a command (60_exceptions R235), emitting
(20_memory R53), ending a transaction with an error, `fail` (60_exceptions R236), and with a response, `complete`
(44_framer_rx R195). `reject` and `fail` are what this block has in the place of taking an exception, and there is
nothing to return from (60_exceptions R240, R241). -/

namespace Sys2Proof.Machine

/-- `resp(st, val)`: one answer on the response port (00_scope R13). -/
def State.resp (st : Nibble) (val : Word) (s : State) : State :=
  { s with answers := s.answers ++ [⟨st, val⟩] }

/-- `resp(0, val)`, the answer of an accepted command (30_encoding R78). -/
def State.accept (val : Word) (s : State) : State := s.resp 0#4 val

/-- `reject(kind)`: the answer is the kind's code and 0, and no state changes (60_exceptions R235). -/
def State.reject (kind : ErrorKind) (s : State) : State := s.resp kind.code 0#16

/-- `emit(bytes)`: the bytes join LINE_OUT at its end (20_memory R53). -/
def State.emit (bytes : List Byte) (s : State) : State := { s with lineOut := s.lineOut ++ bytes }

/-- `fail(kind)`: the transaction in progress ends with an error kind (60_exceptions R236). EXC is not changed. -/
def State.fail (kind : ErrorKind) (s : State) : State :=
  { s with
    err := kind.code, done := false, rxbuf := [], rxptr := 0,
    phase := .idle, astate := .hunt, rxw := [], nib := none, iter := 0 }

/-- The writes of `complete(M)` once M[1] is read: the message and the exception bit of its function byte
(44_framer_rx R195). -/
def State.deliver (m : List Byte) (exception : Bool) (s : State) : State :=
  { s with
    rxbuf := m, rxptr := 0, done := true, exc := exception, err := 0#4,
    phase := .idle, astate := .hunt, rxw := [], nib := none, iter := 0 }

/-- `complete(M)`: the transaction in progress ends with the response M (44_framer_rx R195). M[1] is read, so a message
without one stops the model (log 8). -/
def complete (m : List Byte) (s : State) : Result :=
  match m with
  | _ :: f :: _ => .next (s.deliver m (exceptionBit f))
  | _ => .fault .shortMessage

/-- `fail(kind)` where a transaction is in flight, nothing otherwise (45_link R212, R215). -/
def State.failIfBusy (kind : ErrorKind) (s : State) : State := if s.busy then s.fail kind else s

end Sys2Proof.Machine
end

