-- ==== Sys2Proof/Machine/Crc.lean ====
section
/-! DEFINITION. The CRC commands (40_crc16 R102 to R105). Allowed in every state. -/

namespace Sys2Proof.Machine

/-- CRC.INIT (40_crc16 R102). -/
def execCrcInit (s : State) : Result := .next ({ s with crc := crcInitial }.accept 0#16)

/-- CRC.UPD b (40_crc16 R103). -/
def execCrcUpd (b : Byte) (s : State) : Result := .next ({ s with crc := crc16Step s.crc b }.accept 0#16)

/-- CRC.RD (40_crc16 R104). -/
def execCrcRd (s : State) : Result := .next (s.accept s.crc)

/-- CRC.CHK (40_crc16 R105): the verdict is the answer's value; a failed check is no error. -/
def execCrcChk (s : State) : Result := .next (s.accept (if s.crc = 0#16 then 1#16 else 0#16))

end Sys2Proof.Machine
end

