-- ==== Sys2Proof/Machine/HexCodec.lean ====
section
/-! DEFINITION. The hex codec's functions (42_hex R130, R131, R132). -/

namespace Sys2Proof.Machine

/-- `hexenc(n)` (42_hex R130): upper case. -/
def hexEncode (n : Nibble) : Byte :=
  if n.toNat ≤ 9 then 0x30#8 + n.setWidth 8 else 0x41#8 + (n.setWidth 8 - 10#8)

/-- `hexdec(c)` (42_hex R131): exactly the encoder's alphabet. -/
def hexDecode (c : Byte) : Option Nibble :=
  if 0x30 ≤ c.toNat ∧ c.toNat ≤ 0x39 then some ((c - 0x30#8).setWidth 4)
  else if 0x41 ≤ c.toNat ∧ c.toNat ≤ 0x46 then some ((c - 0x41#8 + 10#8).setWidth 4)
  else none

/-- The high nibble, `b[7:4]`. -/
def highNibble (b : Byte) : Nibble := b.extractLsb' 4 4

/-- The low nibble, `b[3:0]`. -/
def lowNibble (b : Byte) : Nibble := b.extractLsb' 0 4

/-- `hexpair(b)` of one byte (42_hex R132): the high nibble's character first. -/
def hexPair (b : Byte) : List Byte := [hexEncode (highNibble b), hexEncode (lowNibble b)]

/-- `hexpair` of a byte sequence (42_hex R132). -/
def hexPairs (s : List Byte) : List Byte := s.flatMap hexPair

/-- The byte of two nibbles, `h << 4 | l` (42_hex R132). -/
def joinNibbles (h l : Nibble) : Byte := (h.setWidth 8 <<< 4) ||| l.setWidth 8

/-- `unhex(c1, c2)` (42_hex R132). -/
def unhex (c1 c2 : Byte) : Option Byte :=
  match hexDecode c1, hexDecode c2 with
  | some h, some l => some (joinNibbles h l)
  | _, _ => none

/-- Decoding a text pair by pair with `unhex` (42_hex R135); an odd or a non-hex text gives none. -/
def unhexPairs : List Byte → Option (List Byte)
  | [] => some []
  | [_] => none
  | c1 :: c2 :: rest =>
    match unhex c1 c2, unhexPairs rest with
    | some b, some bs => some (b :: bs)
    | _, _ => none

end Sys2Proof.Machine
end

