-- ==== Sys2Proof/Machine/FramerRx.lean ====
section
/-! DEFINITION. The framer's receive side: the received byte in the three wire formats (44_framer_rx R175 to R193), the
timeout (R197) and the read-back commands (R198 to R201). -/

namespace Sys2Proof.Machine

/-- `need` of 44_framer_rx R176: the exact length with its CRC once `body_len` knows it, else MIN_RTU. -/
def rtuNeed (c : Config) (w : List Byte) : Nat :=
  match bodyLen c w with
  | some l => l + 2
  | none => minRtu

/-- The message of a window that holds a valid frame at its front: the length is known and the candidate passes `crc_ok`
(44_framer_rx R176, R177). -/
def rtuMessage (c : Config) (w : List Byte) : Option (List Byte) :=
  match bodyLen c w with
  | some l => if crcOk (w.take (l + 2)) then some (w.take l) else none
  | none => none

/-- What evaluating the RTU window comes to. -/
inductive RtuVerdict where
  /-- Too short for its `need`: this window and this ITER stay. -/
  | waiting (w : List Byte) (iter : Nat)
  /-- A valid frame with this message. -/
  | found (m : List Byte)
  /-- ITER reached RESYNC_CAP. -/
  | capReached
  deriving DecidableEq, Repr

/-- The loop of 44_framer_rx R176, R178, R179: an invalid candidate drops the window's first byte, counts one iteration,
and the shorter window is judged again at once. The window shrinks at each pass; an empty one is too short. -/
def rtuScan (c : Config) : List Byte → Nat → RtuVerdict
  | [], iter => .waiting [] iter
  | b :: rest, iter =>
    if (b :: rest).length < rtuNeed c (b :: rest) then .waiting (b :: rest) iter
    else
      match rtuMessage c (b :: rest) with
      | some m => .found m
      | none => if iter + 1 = c.resyncCap then .capReached else rtuScan c rest (iter + 1)

/-- `rx_rtu(b)` (44_framer_rx R176). -/
def rxRtu (b : Byte) (s : State) : Result :=
  match rtuScan s.cfg (s.rxw ++ [b]) s.iter with
  | .waiting w iter => .next { s with rxw := w, iter := iter }
  | .found m => complete m s
  | .capReached => .next (s.fail .transactionFailure)

/-- `ascii_end()` (44_framer_rx R183): emptiness, then LRC, then shape. -/
def asciiEnd (s : State) : Result :=
  if s.rxw.length = 0 then .next (s.fail .transactionFailure)
  else if lrcOk s.rxw = false then .next (s.fail .transactionFailure)
  else
    let m := s.rxw.take (s.rxw.length - 1)
    if shapeOk s.cfg m = false then .next (s.fail .invalidDataType) else complete m s

/-- A_BODY: a character between the start delimiter and CR (44_framer_rx R181, R185). -/
def asciiBody (c : Byte) (s : State) : Result :=
  if c = carriageReturn then
    match s.nib with
    | some _ => .next (s.fail .transactionFailure)
    | none => .next { s with astate := .cr }
  else
    match hexDecode c with
    | none => .next (s.fail .transactionFailure)
    | some v =>
      match s.nib with
      | none => .next { s with nib := some v }
      | some h =>
        if s.rxw.length = asciiCapacity then .next (s.fail .invalidDataLength)
        else .next { s with rxw := s.rxw ++ [joinNibbles h v], nib := none }

/-- `rx_ascii(c)` (44_framer_rx R180); `:` restarts in every sub-state (R184); A_CR is R182. -/
def rxAscii (c : Byte) (s : State) : Result :=
  if c = colon then .next { s with astate := .body, rxw := [], nib := none }
  else
    match s.astate with
    | .hunt => .next s
    | .body => asciiBody c s
    | .cr => if c = lineFeed then asciiEnd s else .next (s.fail .transactionFailure)

/-- The last lines of 44_framer_rx R190: the transaction completes when the window reaches 6 + L (R192). -/
def bridgeFinish (s : State) : Result :=
  match bodyLen s.cfg (s.rxw.drop 6) with
  | some l => if s.rxw.length = 6 + l then complete ((s.rxw.drop 6).take l) s else .next s
  | none => .next s

/-- The seventh byte: the unit echo (44_framer_rx R191). TXBUF[0] is read, so a state without one stops the model (log 8). -/
def bridgeUnit (b : Byte) (s : State) : Result :=
  match s.txbuf[0]? with
  | none => .fault .missingCommandByte
  | some unit => if b ≠ unit then .next (s.fail .transactionFailure) else bridgeFinish s

/-- The eighth byte: EXC, the function echo (44_framer_rx R191), then class UNKNOWN (R193). -/
def bridgeFunction (b : Byte) (s : State) : Result :=
  let s := if exceptionBit b then { s with exc := true } else s
  match s.txbuf[1]? with
  | none => .fault .missingCommandByte
  | some function =>
    if b ≠ function then .next (s.fail .transactionFailure)
    else if shapeOf s.cfg b = .unknown then .next (s.fail .transactionFailure)
    else bridgeFinish s

/-- `rx_bridge(b)` (44_framer_rx R190). The byte just stored is RXW[6] at n = 7 and RXW[7] at n = 8. -/
def rxBridge (b : Byte) (s : State) : Result :=
  let s := { s with rxw := s.rxw ++ [b] }
  let n := s.rxw.length
  if n ≤ 6 then .next s
  else if n = 7 then bridgeUnit b s
  else if n = 8 then bridgeFunction b s
  else bridgeFinish s

/-- Event @RX b (44_framer_rx R175). -/
def execEvRx (b : Byte) (s : State) : Result :=
  match s.phase with
  | .idle => .next s
  | .wait =>
    match s.mode with
    | .rtu => rxRtu b s
    | .ascii => rxAscii b s
    | .bridge => rxBridge b s

/-- Event @TIMEOUT (44_framer_rx R197). -/
def execEvTimeout (s : State) : Result :=
  match s.phase with
  | .wait => .next ({ s with tocnt := s.tocnt + 1#16 }.fail .responseTimeout)
  | .idle => .next s

/-- FR.STAT (44_framer_rx R198). -/
def execFrStat (s : State) : Result := .next (s.accept s.status)

/-- FR.RXLEN (44_framer_rx R199): the full length, whatever RXPTR is. -/
def execFrRxlen (s : State) : Result := .next (s.accept (BitVec.ofNat 16 s.rxbuf.length))

/-- FR.RXPOP (44_framer_rx R200). RXBUF[RXPTR] is read, so an RXPTR past the end stops the model (log 8). -/
def execFrRxpop (s : State) : Result :=
  if s.rxptr = s.rxbuf.length then .next (s.reject .invalidDataLength)
  else
    match s.rxbuf[s.rxptr]? with
    | none => .fault .readPointerPastEnd
    | some v => .next ({ s with rxptr := s.rxptr + 1 }.accept (v.setWidth 16))

/-- FR.CNT k (44_framer_rx R201). -/
def execFrCnt (k : CounterSelect) (s : State) : Result := .next (s.accept (counterOf k s))

end Sys2Proof.Machine
end

