-- ==== Sys2Proof/Machine/Frames.lean ====
section
/-! DEFINITION. The three wire formats (43_framer_tx R149, R150, R151). No byte stuffing in any (00_scope R3). -/

namespace Sys2Proof.Machine

/-- `enc_rtu(P)` (43_framer_tx R149): the CRC follows, low byte first. -/
def encRtu (p : List Byte) : List Byte := p ++ [lowByte (crc16 p), highByte (crc16 p)]

/-- `enc_ascii(P)` (43_framer_tx R150). -/
def encAscii (p : List Byte) : List Byte :=
  [colon] ++ hexPairs p ++ hexPair (lrc p) ++ [carriageReturn, lineFeed]

/-- `enc_bridge(t, P)` (43_framer_tx R151): transaction id, two zero bytes, length, high bytes first. -/
def encBridge (t : Word) (p : List Byte) : List Byte :=
  [highByte t, lowByte t, 0#8, 0#8, highByte (BitVec.ofNat 16 p.length), lowByte (BitVec.ofNat 16 p.length)] ++ p

/-- The frame of a message in a wire format (43_framer_tx R146); the id is used in BRIDGE only. -/
def encFrame (mode : Mode) (t : Word) (p : List Byte) : List Byte :=
  match mode with
  | .rtu => encRtu p
  | .ascii => encAscii p
  | .bridge => encBridge t p

end Sys2Proof.Machine
end

