-- ==== Sys2Proof/Machine/FramerTx.lean ====
section
/-! DEFINITION. The framer's transmit side (43_framer_tx R141 to R148). Each of these commands is rejected Busy first while a
transaction is in flight (60_exceptions R237). -/

namespace Sys2Proof.Machine

/-- FR.MODE m (43_framer_tx R141). -/
def execFrMode (m : BitVec 2) (s : State) : Result :=
  if s.busy then .next (s.reject .busy)
  else
    match modeOfOperand m with
    | none => .next (s.reject .methodNotSupported)
    | some mode => .next ({ s with mode := mode }.accept 0#16)

/-- FR.TXCLR (43_framer_tx R142). -/
def execFrTxclr (s : State) : Result :=
  if s.busy then .next (s.reject .busy) else .next ({ s with txbuf := [] }.accept 0#16)

/-- FR.TXPUSH b (43_framer_tx R143): the answer is the length after the push. -/
def execFrTxpush (b : Byte) (s : State) : Result :=
  if s.busy then .next (s.reject .busy)
  else if s.txbuf.length = txCapacity then .next (s.reject .invalidDataLength)
  else
    let txbuf := s.txbuf ++ [b]
    .next ({ s with txbuf := txbuf }.accept (BitVec.ofNat 16 txbuf.length))

/-- TXID after an accepted FR.XACT: only a bridge transaction takes a new id (43_framer_tx R147). -/
def nextTxid (s : State) : Word := if s.mode = .bridge then s.txid + 1#16 else s.txid

/-- The frame an accepted FR.XACT emits: of TXBUF, with the id just written (43_framer_tx R146). -/
def xactFrame (s : State) : List Byte := encFrame s.mode (nextTxid s) s.txbuf

/-- The registers an accepted FR.XACT writes, the emission and the answer apart (43_framer_tx R146). -/
def State.startTransaction (s : State) : State :=
  { s with
    txid := nextTxid s, msgcnt := s.msgcnt + 1#16,
    phase := .wait, astate := .hunt, rxw := [], nib := none, iter := 0,
    rxbuf := [], rxptr := 0, done := false, exc := false, err := 0#4 }

/-- FR.XACT (43_framer_tx R144): the checks of R145 in their order, then the effects of R146. -/
def execFrXact (s : State) : Result :=
  if s.busy then .next (s.reject .busy)
  else if s.link ≠ .connected then .next (s.reject .notConnected)
  else if s.txbuf.length < 2 then .next (s.reject .invalidDataLength)
  else
    .next ((s.startTransaction.emit (xactFrame s)).accept (BitVec.ofNat 16 (xactFrame s).length))

end Sys2Proof.Machine
end

