-- ==== Sys2Proof/Machine/Hex.lean ====
section
/-! DEFINITION. The hex codec's commands (42_hex R133, R134). No state is read or written. -/

namespace Sys2Proof.Machine

/-- HEX.ENC b (42_hex R133): the character to send first is the high byte of the value. -/
def execHexEnc (b : Byte) (s : State) : Result :=
  .next (s.accept (((hexEncode (highNibble b)).setWidth 16 <<< 8) ||| (hexEncode (lowNibble b)).setWidth 16))

/-- HEX.DEC c (42_hex R134). -/
def execHexDec (c : Byte) (s : State) : Result :=
  match hexDecode c with
  | none => .next (s.reject .invalidDataType)
  | some n => .next (s.accept (n.setWidth 16))

end Sys2Proof.Machine
end

