-- ==== Sys2Proof/Machine/LinkState.lean ====
section
/-! DEFINITION. The link state's commands and events (45_link R210 to R216). -/

namespace Sys2Proof.Machine

/-- FR.CONNECT (45_link R211): never rejected; starts an attempt from Disconnected only. -/
def execFrConnect (s : State) : Result :=
  match s.link with
  | .disconnected => .next ({ s with link := .connecting, lerr := 0#4 }.accept 0#16)
  | .connecting => .next (s.accept 0#16)
  | .connected => .next (s.accept 0#16)

/-- FR.DISCONNECT (45_link R212): never rejected; a transaction in flight ends with TransactionFailure. -/
def execFrDisconnect (s : State) : Result :=
  .next ({ s.failIfBusy .transactionFailure with link := .disconnected }.accept 0#16)

/-- Event @LINKOK (45_link R213). -/
def execEvLinkok (s : State) : Result :=
  match s.link with
  | .connecting => .next { s with link := .connected }
  | .disconnected => .next s
  | .connected => .next s

/-- Event @LINKFAIL k (45_link R214). A k outside its set is a reserved event word, which a model refuses
(30_encoding R77); the decoder gives none. -/
def execEvLinkfail (k : Nibble) (s : State) : Result :=
  match linkfailKind k with
  | none => .refused .reservedEvent
  | some kind =>
    match s.link with
    | .connecting => .next { s with link := .disconnected, lerr := kind.code }
    | .disconnected => .next s
    | .connected => .next s

/-- Event @IOFAIL (45_link R215). -/
def execEvIofail (s : State) : Result :=
  match s.link with
  | .connected => .next { s.failIfBusy .connectionFailure with link := .disconnected }
  | .disconnected => .next s
  | .connecting => .next s

end Sys2Proof.Machine
end

