-- ==== Sys2Proof/Machine/Lrc.lean ====
section
/-! DEFINITION. The LRC commands (41_lrc R121 to R124). Allowed in every state. -/

namespace Sys2Proof.Machine

/-- LRC.INIT (41_lrc R121). -/
def execLrcInit (s : State) : Result := .next ({ s with sum := 0#8 }.accept 0#16)

/-- LRC.UPD b (41_lrc R122): 8 bits, the carry is lost. -/
def execLrcUpd (b : Byte) (s : State) : Result := .next ({ s with sum := s.sum + b }.accept 0#16)

/-- LRC.RD (41_lrc R123): the two's complement of SUM. -/
def execLrcRd (s : State) : Result := .next (s.accept ((negateSum s.sum).setWidth 16))

/-- LRC.CHK (41_lrc R124). -/
def execLrcChk (s : State) : Result := .next (s.accept (if s.sum = 0#8 then 1#16 else 0#16))

end Sys2Proof.Machine
end

