-- ==== Sys2Proof/Machine/Dispatch.lean ====
section
/-! DEFINITION. exec: one arm per instruction, each a call of its meaning. -/

namespace Sys2Proof.Machine

def exec (i : Instr) (s : State) : Host.Outcome State Fault Refusal :=
  match i with
  | .crcInit => Sys2Proof.Machine.execCrcInit s
  | .crcUpd b => Sys2Proof.Machine.execCrcUpd b s
  | .crcRd => Sys2Proof.Machine.execCrcRd s
  | .crcChk => Sys2Proof.Machine.execCrcChk s
  | .lrcInit => Sys2Proof.Machine.execLrcInit s
  | .lrcUpd b => Sys2Proof.Machine.execLrcUpd b s
  | .lrcRd => Sys2Proof.Machine.execLrcRd s
  | .lrcChk => Sys2Proof.Machine.execLrcChk s
  | .hexEnc b => Sys2Proof.Machine.execHexEnc b s
  | .hexDec c => Sys2Proof.Machine.execHexDec c s
  | .frMode m => Sys2Proof.Machine.execFrMode m s
  | .frConnect => Sys2Proof.Machine.execFrConnect s
  | .frDisconnect => Sys2Proof.Machine.execFrDisconnect s
  | .frTxclr => Sys2Proof.Machine.execFrTxclr s
  | .frTxpush b => Sys2Proof.Machine.execFrTxpush b s
  | .frXact => Sys2Proof.Machine.execFrXact s
  | .frStat => Sys2Proof.Machine.execFrStat s
  | .frRxlen => Sys2Proof.Machine.execFrRxlen s
  | .frRxpop => Sys2Proof.Machine.execFrRxpop s
  | .frCnt k => Sys2Proof.Machine.execFrCnt k s
  | .evRx b => Sys2Proof.Machine.execEvRx b s
  | .evTimeout => Sys2Proof.Machine.execEvTimeout s
  | .evIofail => Sys2Proof.Machine.execEvIofail s
  | .evLinkok => Sys2Proof.Machine.execEvLinkok s
  | .evLinkfail k => Sys2Proof.Machine.execEvLinkfail k s

end Sys2Proof.Machine
end

