-- ==== Sys2Proof/Machine/Intake.lean ====
section
/-! DEFINITION. Taking an input (20_memory R51, R52, R58): which one comes next, what a word that is no instruction does
(30_encoding R74, R77), and reset (70_reset R260). Step.lean only calls these. -/

namespace Sys2Proof.Machine

/-- The next input, and the state with that input taken. -/
def takeInput (s : State) : Option (Input × State) :=
  match s.inputs with
  | [] => none
  | i :: rest => some (i, { s with inputs := rest })

/-- An input presented in front of those already waiting. -/
def presentInput (i : Input) (s : State) : State := { s with inputs := i :: s.inputs }

/-- Reset (70_reset R260): every piece of state at its value of 10_state R39, whatever it was; nothing is emitted and
nothing answered. The configuration is not affected, the inputs after the reset are still to come, the answers already
given stay given (log 3), and LINE_OUT is recorded anew (log 4). -/
def State.applyReset (s : State) : State :=
  { State.reset with cfg := s.cfg, inputs := s.inputs, answers := s.answers }

/-- What a word that is no instruction does: a command word is answered IllegalCommand and changes nothing
(30_encoding R74), an event word is no legal input (R77). -/
def undecodable (p : PortWord) (s : State) : Result :=
  match p with
  | .command _ => .next (s.reject .illegalCommand)
  | .event _ => .refused .reservedEvent

/-- One input, taken to completion (20_memory R59). -/
def runInput (i : Input) (s : State) : Result :=
  match i with
  | .reset => .next s.applyReset
  | .word p =>
    match decode p with
    | .ok instr => exec instr s
    | .error _ => undecodable p s

end Sys2Proof.Machine
end

