-- ==== Sys2Proof/Machine/Step.lean ====
section
/-! DEFINITION. One step: the next input is taken and run. Where none is presented nothing changes (00_scope R15; log 2). -/

namespace Sys2Proof.Machine

/-- One step of the block. -/
def step (s : State) : Host.Outcome State Fault Refusal :=
  match takeInput s with
  | none => .next s
  | some (i, s') => runInput i s'

/-- The state with an opcode-table word presented as the very next input (log 10). -/
def State.withFetchWord (s : State) (nbits w : Nat) : State := presentInput (.word (portWordOfTable nbits w)) s

end Sys2Proof.Machine
end

