-- ==== Sys2Proof/Machine/Environment.lean ====
section
/-! DEFINITION. What the outside owes the block (70_reset R266): a fairness assumption on the inputs, which is no part of
the step. The outside is a stream, so that a run need not end. -/

namespace Sys2Proof.Machine

/-- What all agents outside present, in the order it is taken; `none` where nothing arrives (00_scope R15; log 11). -/
abbrev Outside := Nat → Option Input

/-- The result after `n` inputs of a stream, which take the place of the inputs the state holds. -/
def stateAfter (out : Outside) (s : State) : Nat → Result
  | 0 => .next s
  | n + 1 =>
    match stateAfter out s n with
    | .next u => step { u with inputs := (out n).toList }
    | .fault r => .fault r
    | .refused r => .refused r

/-- @TIMEOUT or @IOFAIL, the events that end a transaction the line does not end (70_reset R266). -/
abbrev OwedEvent (i : Option Input) : Prop :=
  i = some (.word (encode .evTimeout)) ∨ i = some (.word (encode .evIofail))

/-- The fairness assumption of 70_reset R266: whenever a transaction is in flight, it ends later or a @TIMEOUT or @IOFAIL
is delivered later. A claim that every transaction ends takes this as a hypothesis. -/
def EnvironmentKeepsItsDuty (out : Outside) (s : State) : Prop :=
  ∀ n u, stateAfter out s n = .next u → u.phase = .wait →
    ∃ m v, n ≤ m ∧ stateAfter out s m = .next v ∧ (v.phase = .idle ∨ OwedEvent (out m))

end Sys2Proof.Machine
end

