-- ==== Sys2Proof/Safety.lean ====
section
/-! DEFINITION. The terms the statements are written in: which configurations the spec allows, the invariants of
10_state R38 with what they need to be kept, quiescence (70_reset R270), the opcode map as a table (30_encoding R72), the
order of checks (60_exceptions R237), the transitions of LINK (45_link R210), and inputs as instructions. -/

namespace Sys2Proof.Machine

/-- A row's class is one 00_scope R9 allows: FIXED(n) has 2 ≤ n ≤ 258. -/
def rowAllowed (r : ShapeRow) : Bool :=
  match r.cls with
  | .fixed n => decide (2 ≤ n ∧ n ≤ 258)
  | .counted => true
  | .unknown => true

/-- The constraints of 00_scope R9 on the two open parameters. -/
abbrev configAllowed (c : Config) : Prop := 1 ≤ c.resyncCap ∧ c.shapeRows.all rowAllowed = true

/-- The eight items of 10_state R38, in their order. -/
abbrev SpecInvariant (s : State) : Prop :=
  (s.mode.code.toNat ≤ 2 ∧ s.link.code.toNat ≤ 2) ∧
  (s.txbuf.length ≤ 256 ∧ s.rxbuf.length ≤ 258 ∧ s.rxptr ≤ s.rxbuf.length) ∧
  (s.phase = .wait → s.link = .connected ∧ 2 ≤ s.txbuf.length ∧ s.done = false ∧ s.err = 0#4 ∧ s.rxbuf = [] ∧
    s.iter < s.cfg.resyncCap) ∧
  (s.phase = .idle → s.rxw = [] ∧ s.nib = none ∧ s.iter = 0 ∧ s.astate = .hunt) ∧
  (s.done = true → s.phase = .idle ∧ s.err = 0#4 ∧ 2 ≤ s.rxbuf.length ∧
    s.rxbuf[1]?.map exceptionBit = some s.exc) ∧
  (s.err ≠ 0#4 → s.phase = .idle ∧ s.done = false ∧ s.rxbuf = []) ∧
  (s.done = false → s.rxbuf = []) ∧
  (s.link = .connecting → s.phase = .idle)

/-- The values ERR and LERR can hold (10_state R34). -/
abbrev ErrorCodesKnown (s : State) : Prop :=
  s.err.toNat ∈ [0, 2, 3, 4, 6, 7] ∧ s.lerr.toNat ∈ [0, 2, 8, 10, 11, 12]

/-- What the receive window holds between two bytes of a response: it is always too short to end the transaction
(44_framer_rx R176, R180, R185, R190, R192). -/
abbrev WindowInvariant (s : State) : Prop :=
  (s.phase = .wait → s.mode ≠ .ascii → s.nib = none ∧ s.astate = .hunt) ∧
  (s.phase = .wait → s.mode = .rtu → s.rxw.length < rtuNeed s.cfg s.rxw) ∧
  (s.phase = .wait → s.mode = .ascii → s.rxw.length ≤ 259 ∧ (s.astate = .hunt → s.rxw = [] ∧ s.nib = none) ∧
    (s.astate = .cr → s.nib = none)) ∧
  (s.phase = .wait → s.mode = .bridge →
    (7 ≤ s.rxw.length → s.rxw[6]? = s.txbuf[0]?) ∧
    (8 ≤ s.rxw.length → s.rxw[7]? = s.txbuf[1]? ∧ s.rxw[7]?.map (shapeOf s.cfg) ≠ some .unknown) ∧
    (bodyLen s.cfg (s.rxw.drop 6)).all (fun l => decide (s.rxw.length < 6 + l)) = true)

/-- The invariant every step keeps: an allowed configuration, 10_state R38, and what these need. -/
abbrev Inv (s : State) : Prop :=
  configAllowed s.cfg ∧ SpecInvariant s ∧ ErrorCodesKnown s ∧ WindowInvariant s

/-- PH = IDLE (70_reset R270). -/
abbrev Quiescent (s : State) : Prop := s.phase = .idle

/-- The inputs that present a list of instructions, one word each. -/
abbrev inputsOf (is : List Instr) : List Input := is.map fun i => Input.word (encode i)

/-- The opcode map of 30_encoding R72: the mask and the match of each command. -/
def commandTable : List (Word × Word) :=
  [(0xFFFF#16, 0x1000#16), (0xFF00#16, 0x1100#16), (0xFFFF#16, 0x1200#16), (0xFFFF#16, 0x1300#16),
   (0xFFFF#16, 0x2000#16), (0xFF00#16, 0x2100#16), (0xFFFF#16, 0x2200#16), (0xFFFF#16, 0x2300#16)] ++
  [(0xFF00#16, 0x3000#16), (0xFF00#16, 0x3100#16), (0xFFFC#16, 0x4000#16), (0xFFFF#16, 0x4100#16),
   (0xFFFF#16, 0x4200#16), (0xFFFF#16, 0x4300#16), (0xFF00#16, 0x4400#16), (0xFFFF#16, 0x4500#16)] ++
  [(0xFFFF#16, 0x4600#16), (0xFFFF#16, 0x4700#16), (0xFFFF#16, 0x4800#16), (0xFFFE#16, 0x4900#16)]

/-- Whether an instruction belongs to the CRC or the LRC unit, the only ones that may touch CRC and SUM (10_state R21, R22). -/
def isChecksum : Instr → Bool
  | .crcInit | .crcUpd _ | .crcRd | .crcChk | .lrcInit | .lrcUpd _ | .lrcRd | .lrcChk => true
  | .hexEnc _ | .hexDec _ | .frMode _ | .frConnect | .frDisconnect | .frTxclr | .frTxpush _ | .frXact | .frStat
  | .frRxlen | .frRxpop | .frCnt _ | .evRx _ | .evTimeout | .evIofail | .evLinkok | .evLinkfail _ => false

/-- The first check of 60_exceptions R237 that a decoded command fails, in the order of that rule; none for an accepted one. -/
def firstFailedCheck (i : Instr) (s : State) : Option ErrorKind :=
  match i with
  | .frMode m => if s.phase = .wait then some .busy else if m = 3#2 then some .methodNotSupported else none
  | .frTxclr => if s.phase = .wait then some .busy else none
  | .frTxpush _ =>
    if s.phase = .wait then some .busy else if s.txbuf.length = 256 then some .invalidDataLength else none
  | .frXact =>
    if s.phase = .wait then some .busy
    else if s.link ≠ .connected then some .notConnected
    else if s.txbuf.length < 2 then some .invalidDataLength
    else none
  | .frRxpop => if s.rxptr = s.rxbuf.length then some .invalidDataLength else none
  | .hexDec c => if hexDecode c = none then some .invalidDataType else none
  | .crcInit | .crcUpd _ | .crcRd | .crcChk | .lrcInit | .lrcUpd _ | .lrcRd | .lrcChk | .hexEnc _ | .frConnect
  | .frDisconnect | .frStat | .frRxlen | .frCnt _ | .evRx _ | .evTimeout | .evIofail | .evLinkok | .evLinkfail _ => none

/-- Whether an input starts a transaction: an accepted FR.XACT (43_framer_tx R145). -/
abbrev startsTransaction (i : Instr) (s : State) : Prop :=
  i = .frXact ∧ s.phase = .idle ∧ s.link = .connected ∧ 2 ≤ s.txbuf.length

/-- LINK after an instruction, by the transition table of 45_link R210; every pair not in it leaves LINK unchanged. -/
def linkAfter (l : Link) (i : Instr) : Link :=
  match l, i with
  | .disconnected, .frConnect => .connecting
  | .connecting, .evLinkok => .connected
  | .connecting, .evLinkfail _ => .disconnected
  | .connecting, .frDisconnect => .disconnected
  | .connected, .evIofail => .disconnected
  | .connected, .frDisconnect => .disconnected
  | l, _ => l

/-- A result with its next state changed; a stop stays as it is. -/
def mapNext (f : State → State) : Result → Result
  | .next s => .next (f s)
  | .fault r => .fault r
  | .refused r => .refused r

end Sys2Proof.Machine
end

