-- ==== Sys2Proof/Certificates/Slice0/Obligations.lean ====
section
/-! DEFINITION. The statements for the provers. Each docstring names the rule of the spec it formalises. -/

open Sys2Proof Sys2Proof.Machine

/-! ## Encoding -/

/-- Decode and encode agree: every well-formed instruction, with every operand, is read back from its word (30_encoding
R70 to R76). -/
def Obligations.DecodeOfEncodeIsTheInstruction : Prop :=
  ∀ i : Instr, i.wellFormed = true → decode (encode i) = .ok i

/-- Every word has at most one meaning and is that instruction's own word; only well-formed instructions are read
(30_encoding R72, R76). -/
def Obligations.EncodeOfDecodeIsTheWord : Prop :=
  ∀ (p : PortWord) (i : Instr), decode p = .ok i → encode i = p ∧ i.wellFormed = true

/-- The words the spec writes out itself: 30_encoding R79's four examples, 95_test_vectors V31 and V32. -/
def Obligations.WordsWrittenInTheSpecDecode : Prop :=
  decode (.command 0x1131#16) = .ok (.crcUpd 0x31#8) ∧ decode (.command 0x4001#16) = .ok (.frMode 1#2) ∧
  decode (.event 0x13A#12) = .ok (.evRx 0x3A#8) ∧ decode (.event 0x50A#12) = .ok (.evLinkfail 10#4) ∧
  decode (.command 0x4003#16) = .ok (.frMode 3#2) ∧ decode (.command 0x4901#16) = .ok (.frCnt .timeouts) ∧
  decode (.command 0x44FF#16) = .ok (.frTxpush 0xFF#8) ∧ decode (.event 0x200#12) = .ok .evTimeout

/-- 30_encoding R74: a command word that matches no row of the opcode map is answered (14, 0) and changes no state, a word
that matches a row is a command, and 0x4003 is FR.MODE 3, which its rule rejects. -/
def Obligations.IllegalCommandWordsAreAnsweredAndChangeNothing : Prop :=
  ∀ (s : State) (cw : Word) (rest : List Input), s.inputs = .word (.command cw) :: rest →
    ((∀ row ∈ commandTable, cw &&& row.1 ≠ row.2) →
      step s = .next { s with inputs := rest, answers := s.answers ++ [⟨14#4, 0#16⟩] }) ∧
    ((∃ row ∈ commandTable, cw &&& row.1 = row.2) → ∃ i, decode (.command cw) = .ok i ∧ i.isCommand = true) ∧
    (cw = 0x4003#16 → s.phase = .idle → decode (.command cw) = .ok (.frMode 3#2) ∧
      step s = .next { s with inputs := rest, answers := s.answers ++ [⟨9#4, 0#16⟩] })

/-- 30_encoding R77: reserved event words are refused, and no other event word is. -/
def Obligations.ReservedEventWordsAreRefused : Prop :=
  ∀ (s : State) (kind : Nibble) (data : Byte) (rest : List Input), s.inputs = .word (.event (kind ++ data)) :: rest →
    let reserved := kind.toNat = 0 ∨ 6 ≤ kind.toNat ∨ (kind.toNat ∈ [2, 3, 4] ∧ data ≠ 0#8) ∨
      (kind.toNat = 5 ∧ data.toNat ∉ [2, 8, 10, 11, 12])
    (reserved → step s = .refused .reservedEvent) ∧
    (¬ reserved → ∃ i, decode (.event (kind ++ data)) = .ok i ∧ i.isCommand = false)

/-! ## The step and reset -/

/-- The step takes the next input; a word that decodes runs its instruction on the state with that input taken. -/
def Obligations.StepRunsTheDecodedInstruction : Prop :=
  ∀ (s : State) (p : PortWord) (rest : List Input) (i : Instr),
    s.inputs = .word p :: rest → decode p = .ok i → step s = exec i { s with inputs := rest }

/-- The model's own records and choices: where no input is presented nothing changes (log 2; 00_scope R15 gives the block
no step of its own), and reset records LINE_OUT anew (log 4), keeps the answers given (log 3) and the inputs to come (log 1). -/
def Obligations.ModelsOwnRecordsOnAStep : Prop :=
  (∀ s : State, s.inputs = [] → step s = .next s) ∧
  (∀ (s : State) (rest : List Input), s.inputs = .reset :: rest →
    ∃ t, step s = .next t ∧ t.lineOut = [] ∧ t.answers = s.answers ∧ t.inputs = rest)

/-- A step takes exactly the first of the inputs waiting, keeps the others in their order, and changes neither the
configuration (10_state R37) nor an answer given before. That this holds of reset's answers too is the model's choice
(log 3), and so is the step with no input waiting (log 2). -/
def Obligations.StepTakesOneInputAndKeepsTheConfiguration : Prop :=
  ∀ (s t : State), step s = .next t →
    t.inputs = s.inputs.tail ∧ t.cfg = s.cfg ∧ ∃ given, t.answers = s.answers ++ given ∧ given.length ≤ 1

/-- 10_state R39 and 70_reset R260: reset, whatever the state was, puts every piece of state at its value of the table and
does not affect the configuration. -/
def Obligations.ResetPutsEveryRegisterAtItsResetValue : Prop :=
  ∀ (s : State) (rest : List Input), s.inputs = .reset :: rest → ∃ t, step s = .next t ∧
    t.crc = 0xFFFF#16 ∧ t.sum = 0x00#8 ∧ t.mode = .rtu ∧ t.phase = .idle ∧ t.astate = .hunt ∧
    t.link = .disconnected ∧ t.txbuf = [] ∧ t.txid = 0#16 ∧ t.rxw = [] ∧ t.nib = none ∧ t.iter = 0 ∧ t.rxbuf = [] ∧
    t.rxptr = 0 ∧ t.done = false ∧ t.exc = false ∧ t.err = 0#4 ∧ t.lerr = 0#4 ∧ t.msgcnt = 0#16 ∧ t.tocnt = 0#16 ∧
    t.status = 0#16 ∧ t.cfg = s.cfg

/-- 70_reset R261: what the read commands answer after reset, and that FR.RXPOP and FR.XACT are rejected. -/
def Obligations.ReadsAfterReset : Prop :=
  ∀ s : State, let r := s.applyReset
    let answered := fun (a : Answer) => Host.Outcome.next (φ := Fault) (ρ := Refusal) { r with answers := r.answers ++ [a] }
    exec .crcRd r = answered ⟨0#4, 0xFFFF#16⟩ ∧ exec .lrcRd r = answered ⟨0#4, 0#16⟩ ∧
    exec .frStat r = answered ⟨0#4, 0#16⟩ ∧ exec .frRxlen r = answered ⟨0#4, 0#16⟩ ∧
    exec (.frCnt .messages) r = answered ⟨0#4, 0#16⟩ ∧ exec (.frCnt .timeouts) r = answered ⟨0#4, 0#16⟩ ∧
    exec .frRxpop r = answered ⟨7#4, 0#16⟩ ∧ exec .frXact r = answered ⟨1#4, 0#16⟩

/-! ## The CRC unit -/

/-- 40_crc16 R102 to R105: the four CRC commands, in every state, and their words. -/
def Obligations.CrcCommandsWriteAndAnswer : Prop :=
  ∀ (s : State) (b : Byte),
    exec .crcInit s = .next { s with crc := 0xFFFF#16, answers := s.answers ++ [⟨0#4, 0#16⟩] } ∧
    exec (.crcUpd b) s = .next { s with crc := crc16Step s.crc b, answers := s.answers ++ [⟨0#4, 0#16⟩] } ∧
    exec .crcRd s = .next { s with answers := s.answers ++ [⟨0#4, s.crc⟩] } ∧
    (s.crc = 0#16 → exec .crcChk s = .next { s with answers := s.answers ++ [⟨0#4, 1#16⟩] }) ∧
    (s.crc ≠ 0#16 → exec .crcChk s = .next { s with answers := s.answers ++ [⟨0#4, 0#16⟩] }) ∧
    encode .crcInit = .command 0x1000#16 ∧ encode (.crcUpd b) = .command (0x1100#16 ||| b.setWidth 16) ∧
    encode .crcRd = .command 0x1200#16 ∧ encode .crcChk = .command 0x1300#16

/-- 40_crc16 R100, R101, R110, R111: the step is the eight shifts of its pseudocode with the polynomial 0xA001, the CRC is
the fold of the step from 0xFFFF, the register's own low byte shifts it right by eight, and the values the spec gives. -/
def Obligations.CrcIsComputedAsItsPseudocodeSays : Prop :=
  (∀ (c : Word) (b : Byte), crc16Step c b =
    (fun x : Word => if x.getLsbD 0 then (x >>> 1) ^^^ 0xA001#16 else x >>> 1)^[8] (c ^^^ b.setWidth 16)) ∧
  crc16 [] = 0xFFFF#16 ∧ (∀ (s : List Byte) (b : Byte), crc16 (s ++ [b]) = crc16Step (crc16 s) b) ∧
  (∀ c : Word, crc16Step c (c.extractLsb' 0 8) = c >>> 8) ∧ crc16Step 0#16 0#8 = 0#16 ∧
  crc16 [0x31#8, 0x32#8, 0x33#8, 0x34#8, 0x35#8, 0x36#8, 0x37#8, 0x38#8, 0x39#8] = 0x4B37#16 ∧
  ([0x01#8, 0x03#8, 0x00#8, 0x00#8, 0x00#8, 0x01#8, 0x84#8, 0x0A#8] : List Byte).inits.map crc16 =
    [0xFFFF#16, 0x807E#16, 0x2140#16, 0xF020#16, 0xD8F1#16, 0x8419#16, 0x0A84#16, 0x000A#16, 0x0000#16]

/-- 40_crc16 R107: a sequence of two or more bytes passes the check exactly when its own CRC is zero. -/
def Obligations.CrcResidueIsZeroExactlyOnValidFrames : Prop :=
  ∀ f : List Byte, 2 ≤ f.length → (crcOk f = true ↔ crc16 f = 0#16)

/-- 40_crc16 R109: the frame of every message passes, and no frame with one byte changed does. -/
def Obligations.CrcRejectsEverySingleByteChange : Prop :=
  ∀ p : List Byte, crcOk (p ++ [(crc16 p).extractLsb' 0 8, (crc16 p).extractLsb' 8 8]) = true ∧
    ∀ (i : Nat) (v old : Byte),
      (p ++ [(crc16 p).extractLsb' 0 8, (crc16 p).extractLsb' 8 8])[i]? = some old → v ≠ old →
      crcOk ((p ++ [(crc16 p).extractLsb' 0 8, (crc16 p).extractLsb' 8 8]).set i v) = false

/-- CRC.INIT, CRC.UPD of a whole frame, then CRC.CHK: the register holds the frame's CRC and the answer is 1 exactly when
the frame passes the check (40_crc16 R103, R105, R107). -/
def Obligations.CrcUnitVerifiesAFedFrame : Prop :=
  ∀ (s : State) (f : List Byte) (rest : List Input), 2 ≤ f.length →
    s.inputs = inputsOf (.crcInit :: f.map .crcUpd ++ [.crcChk]) ++ rest →
    Host.Core.run core (f.length + 2) s = .next { s with
      crc := crc16 f, inputs := rest,
      answers := s.answers ++ List.replicate (f.length + 1) ⟨0#4, 0#16⟩ ++ [⟨0#4, if crcOk f then 1#16 else 0#16⟩] }

/-! ## The LRC unit -/

/-- 41_lrc R121 to R124: the four LRC commands, in every state, and their words. -/
def Obligations.LrcCommandsWriteAndAnswer : Prop :=
  ∀ (s : State) (b : Byte),
    exec .lrcInit s = .next { s with sum := 0#8, answers := s.answers ++ [⟨0#4, 0#16⟩] } ∧
    exec (.lrcUpd b) s =
      .next { s with sum := BitVec.ofNat 8 ((s.sum.toNat + b.toNat) % 256), answers := s.answers ++ [⟨0#4, 0#16⟩] } ∧
    exec .lrcRd s =
      .next { s with answers := s.answers ++ [⟨0#4, BitVec.ofNat 16 ((256 - s.sum.toNat) % 256)⟩] } ∧
    (s.sum = 0#8 → exec .lrcChk s = .next { s with answers := s.answers ++ [⟨0#4, 1#16⟩] }) ∧
    (s.sum ≠ 0#8 → exec .lrcChk s = .next { s with answers := s.answers ++ [⟨0#4, 0#16⟩] }) ∧
    encode .lrcInit = .command 0x2000#16 ∧ encode (.lrcUpd b) = .command (0x2100#16 ||| b.setWidth 16) ∧
    encode .lrcRd = .command 0x2200#16 ∧ encode .lrcChk = .command 0x2300#16

/-- 41_lrc R126: a non-empty sequence passes the check exactly when its bytes sum to 0 modulo 256. -/
def Obligations.LrcResidueIsZeroExactlyOnValidBodies : Prop :=
  ∀ b : List Byte, 1 ≤ b.length → (lrcOk b = true ↔ (b.map BitVec.toNat).sum % 256 = 0)

/-- 41_lrc R127: every message with its LRC passes, no such sequence with one byte changed does, and the LRC sees only the
sum modulo 256 (so neither a cancelling change nor a reordering). -/
def Obligations.LrcRejectsEverySingleByteChange : Prop :=
  (∀ p : List Byte, lrcOk (p ++ [lrc p]) = true ∧
    ∀ (i : Nat) (v old : Byte), (p ++ [lrc p])[i]? = some old → v ≠ old →
      lrcOk ((p ++ [lrc p]).set i v) = false) ∧
  (∀ b c : List Byte, 1 ≤ b.length → 1 ≤ c.length →
    (b.map BitVec.toNat).sum % 256 = (c.map BitVec.toNat).sum % 256 → lrcOk b = lrcOk c) ∧
  (∀ b c : List Byte, b.Perm c → lrcOk b = lrcOk c)

/-- LRC.INIT, LRC.UPD of a whole body, then LRC.CHK: the answer is 1 exactly when the body passes the check (41_lrc R122,
R124, R126). -/
def Obligations.LrcUnitVerifiesAFedBody : Prop :=
  ∀ (s : State) (b : List Byte) (rest : List Input), 1 ≤ b.length →
    s.inputs = inputsOf (.lrcInit :: b.map .lrcUpd ++ [.lrcChk]) ++ rest →
    Host.Core.run core (b.length + 2) s = .next { s with
      sum := BitVec.ofNat 8 (b.map BitVec.toNat).sum, inputs := rest,
      answers := s.answers ++ List.replicate (b.length + 1) ⟨0#4, 0#16⟩ ++ [⟨0#4, if lrcOk b then 1#16 else 0#16⟩] }

/-! ## The hex codec -/

/-- 42_hex R133 with R130: the two characters of the byte, the high nibble's in bits 15:8; and the characters, `0` to `9`
and upper-case `A` to `F`. -/
def Obligations.HexEncAnswersTheTwoCharacters : Prop :=
  (∀ n : Nibble, (n.toNat ≤ 9 → hexEncode n = BitVec.ofNat 8 (0x30 + n.toNat)) ∧
    (10 ≤ n.toNat → hexEncode n = BitVec.ofNat 8 (0x41 + (n.toNat - 10)))) ∧
  ∀ (s : State) (b : Byte), encode (.hexEnc b) = .command (0x3000#16 ||| b.setWidth 16) ∧ exec (.hexEnc b) s =
    .next { s with answers := s.answers ++ [⟨0#4, hexEncode (b.extractLsb' 4 4) ++ hexEncode (b.extractLsb' 0 4)⟩] }

/-- 42_hex R134 with R131: a character of the encoder's alphabet answers its nibble, every other byte is rejected with
InvalidDataType, and nothing else changes. -/
def Obligations.HexDecAcceptsExactlyTheAlphabet : Prop :=
  ∀ (s : State) (c : Byte), encode (.hexDec c) = .command (0x3100#16 ||| c.setWidth 16) ∧
    (∀ n : Nibble, hexEncode n = c →
      exec (.hexDec c) s = .next { s with answers := s.answers ++ [⟨0#4, n.setWidth 16⟩] }) ∧
    ((∀ n : Nibble, hexEncode n ≠ c) →
      exec (.hexDec c) s = .next { s with answers := s.answers ++ [⟨6#4, 0#16⟩] })

/-- 42_hex R135 (and the length of R132): decoding the hex text of any byte sequence pair by pair gives it back. -/
def Obligations.HexTextDecodesToItsBytes : Prop :=
  ∀ s : List Byte, unhexPairs (hexPairs s) = some s ∧ (hexPairs s).length = 2 * s.length

/-! ## The framer, transmit side -/

/-- 43_framer_tx R141: Busy first, then MethodNotSupported for m = 3, else MODE is written and nothing else. -/
def Obligations.FrModeSelectsTheFormat : Prop :=
  ∀ (s : State) (m : BitVec 2), encode (.frMode m) = .command (0x4000#16 ||| m.setWidth 16) ∧
    (s.phase = .wait → exec (.frMode m) s = .next { s with answers := s.answers ++ [⟨13#4, 0#16⟩] }) ∧
    (s.phase = .idle → m = 3#2 → exec (.frMode m) s = .next { s with answers := s.answers ++ [⟨9#4, 0#16⟩] }) ∧
    (s.phase = .idle → ∀ mode : Mode, mode.code = m →
      exec (.frMode m) s = .next { s with mode := mode, answers := s.answers ++ [⟨0#4, 0#16⟩] })

/-- 43_framer_tx R142 and R143: FR.TXCLR empties TXBUF, FR.TXPUSH appends to it and answers the new length. -/
def Obligations.TransmitBufferCommands : Prop :=
  ∀ (s : State) (b : Byte), encode .frTxclr = .command 0x4300#16 ∧
    encode (.frTxpush b) = .command (0x4400#16 ||| b.setWidth 16) ∧
    (s.phase = .wait → exec .frTxclr s = .next { s with answers := s.answers ++ [⟨13#4, 0#16⟩] } ∧
      exec (.frTxpush b) s = .next { s with answers := s.answers ++ [⟨13#4, 0#16⟩] }) ∧
    (s.phase = .idle → exec .frTxclr s = .next { s with txbuf := [], answers := s.answers ++ [⟨0#4, 0#16⟩] }) ∧
    (s.phase = .idle → s.txbuf.length = 256 →
      exec (.frTxpush b) s = .next { s with answers := s.answers ++ [⟨7#4, 0#16⟩] }) ∧
    (s.phase = .idle → s.txbuf.length ≠ 256 → exec (.frTxpush b) s = .next { s with
      txbuf := s.txbuf ++ [b], answers := s.answers ++ [⟨0#4, BitVec.ofNat 16 (s.txbuf.length + 1)⟩] })

/-- 43_framer_tx R145: the checks of FR.XACT in their order; the first that fails decides the answer, nothing changes. -/
def Obligations.FrXactChecksInOrder : Prop :=
  ∀ s : State,
    (s.phase = .wait → exec .frXact s = .next { s with answers := s.answers ++ [⟨13#4, 0#16⟩] }) ∧
    (s.phase = .idle → s.link ≠ .connected →
      exec .frXact s = .next { s with answers := s.answers ++ [⟨1#4, 0#16⟩] }) ∧
    (s.phase = .idle → s.link = .connected → s.txbuf.length < 2 →
      exec .frXact s = .next { s with answers := s.answers ++ [⟨7#4, 0#16⟩] })

/-- 43_framer_tx R146: the effects of an accepted FR.XACT, every register and the whole frame, in each mode. -/
def Obligations.FrXactEmitsTheFrameAndWaits : Prop :=
  ∀ s : State, s.phase = .idle → s.link = .connected → 2 ≤ s.txbuf.length →
    let started := fun (txid : Word) (frame : List Byte) => Host.Outcome.next (φ := Fault) (ρ := Refusal) { s with
      txid := txid, lineOut := s.lineOut ++ frame, msgcnt := BitVec.ofNat 16 ((s.msgcnt.toNat + 1) % 65536),
      phase := .wait, astate := .hunt, rxw := [], nib := none, iter := 0, rxbuf := [], rxptr := 0, done := false,
      exc := false, err := 0#4, answers := s.answers ++ [⟨0#4, BitVec.ofNat 16 frame.length⟩] }
    (s.mode = .rtu → exec .frXact s = started s.txid (encRtu s.txbuf)) ∧
    (s.mode = .ascii → exec .frXact s = started s.txid (encAscii s.txbuf)) ∧
    (s.mode = .bridge →
      let t := BitVec.ofNat 16 ((s.txid.toNat + 1) % 65536)
      exec .frXact s = started t (encBridge t s.txbuf))

/-- 43_framer_tx R147 and R148 over all instructions: TXID moves, by one, only by an accepted FR.XACT in BRIDGE mode, and
MSGCNT, by one, only by an accepted FR.XACT. -/
def Obligations.TxidAndMsgcntMoveOnlyByAcceptedXact : Prop :=
  ∀ (i : Instr) (s t : State), exec i s = .next t →
    t.txid = (if startsTransaction i s ∧ s.mode = .bridge then s.txid + 1#16 else s.txid) ∧
    t.msgcnt = (if startsTransaction i s then s.msgcnt + 1#16 else s.msgcnt)

/-- 20_memory R53 over all instructions: only an accepted FR.XACT emits, its whole frame in that one step. -/
def Obligations.OnlyAcceptedXactEmits : Prop :=
  ∀ (i : Instr) (s t : State), exec i s = .next t →
    t.lineOut = s.lineOut ++ (if startsTransaction i s then encFrame s.mode t.txid s.txbuf else [])

/-- 43_framer_tx R149, R150, R151, R152: the bytes of the three frames; their lengths, at most 258, 517 and 262 on the
messages FR.XACT passes; and in an ASCII frame `:` at index 0 only, CR and LF at the last two places only. -/
def Obligations.FramesHaveTheBytesOfTheirFormats : Prop :=
  (∀ (t : Word) (p : List Byte), 2 ≤ p.length → p.length ≤ 256 →
    encRtu p = p ++ [(crc16 p).extractLsb' 0 8, (crc16 p).extractLsb' 8 8] ∧
    encAscii p = [0x3A#8] ++
      (p ++ [lrc p]).flatMap (fun b => [hexEncode (b.extractLsb' 4 4), hexEncode (b.extractLsb' 0 4)]) ++
      [0x0D#8, 0x0A#8] ∧
    encBridge t p = [t.extractLsb' 8 8, t.extractLsb' 0 8, 0x00#8, 0x00#8, BitVec.ofNat 8 (p.length / 256),
      BitVec.ofNat 8 (p.length % 256)] ++ p ∧
    ((encRtu p).length = p.length + 2 ∧ (encRtu p).length ≤ 258) ∧
    ((encAscii p).length = 2 * p.length + 5 ∧ (encAscii p).length ≤ 517) ∧
    ((encBridge t p).length = p.length + 6 ∧ (encBridge t p).length ≤ 262)) ∧
  encBridge 1#16 [0x05#8, 0x03#8, 0x00#8, 0x00#8, 0x00#8, 0x01#8] =
    [0x00#8, 0x01#8, 0x00#8, 0x00#8, 0x00#8, 0x06#8, 0x05#8, 0x03#8, 0x00#8, 0x00#8, 0x00#8, 0x01#8] ∧
  (∀ (p : List Byte) (i : Nat) (c : Byte), (encAscii p)[i]? = some c →
    (c = 0x3A#8 ↔ i = 0) ∧ (c = 0x0D#8 ↔ i = 2 * p.length + 3) ∧ (c = 0x0A#8 ↔ i = 2 * p.length + 4))

/-- 43_framer_tx R153: every instruction outside the CRC and LRC units neither reads nor writes CRC and SUM (its result does
not depend on them and leaves them alone); the checksum units' commands and HEX.ENC are accepted in every state, and what
HEX.DEC answers depends on its operand alone and is never Busy. -/
def Obligations.FramerAndChecksumUnitsAreIndependent : Prop :=
  (∀ (i : Instr) (s : State) (c : Word) (m : Byte), isChecksum i = false →
    exec i { s with crc := c, sum := m } = mapNext (fun t => { t with crc := c, sum := m }) (exec i s)) ∧
  (∀ (i : Instr) (s : State), isChecksum i = true → ∃ val crc sum,
    exec i s = .next { s with crc := crc, sum := sum, answers := s.answers ++ [⟨0#4, val⟩] }) ∧
  (∀ b : Byte, ∃ v, ∀ s : State, exec (.hexEnc b) s = .next { s with answers := s.answers ++ [⟨0#4, v⟩] }) ∧
  (∀ c : Byte, ∃ a : Answer, a.st ≠ 13#4 ∧ ∀ s : State, exec (.hexDec c) s = .next { s with answers := s.answers ++ [a] })

/-! ## Ending a transaction -/

/-- 60_exceptions R236: what `fail` writes, for every kind, nothing else changing; and ERR keeps its code while no FR.XACT is
accepted. The kinds' codes are those of R230. -/
def Obligations.FailWritesExactlyTheseRegisters : Prop :=
  (∀ (s : State) (kind : ErrorKind), s.fail kind = { s with
    err := kind.code, done := false, rxbuf := [], rxptr := 0, phase := .idle, astate := .hunt, rxw := [], nib := none,
    iter := 0 }) ∧
  (∀ (i : Instr) (s t : State), s.phase = .idle → exec i s = .next t → ¬ startsTransaction i s → t.err = s.err) ∧
  ([.notConnected, .connectionFailure, .responseTimeout, .transactionFailure, .invalidDataAddress, .invalidDataType,
    .invalidDataLength, .invalidConfiguration, .methodNotSupported, .serialPortInUse, .serialPortUnsupported,
    .serialPortUnavailable, .busy, .illegalCommand] : List ErrorKind).map ErrorKind.code =
    [1#4, 2#4, 3#4, 4#4, 5#4, 6#4, 7#4, 8#4, 9#4, 10#4, 11#4, 12#4, 13#4, 14#4]

/-- 44_framer_rx R195: what `complete` writes for a message of two or more bytes; nothing else changes. -/
def Obligations.CompleteDeliversTheMessage : Prop :=
  ∀ (s : State) (m : List Byte), 2 ≤ m.length → complete m s = .next { s with
    rxbuf := m, rxptr := 0, done := true, exc := (m.getD 1 0#8).getLsbD 7, err := 0#4, phase := .idle,
    astate := .hunt, rxw := [], nib := none, iter := 0 }

/-! ## The framer, receive side -/

/-- 44_framer_rx R172, R173, R174: `body_len` of every class and of too short a prefix, its range in an allowed
configuration, `shape_ok`, and the class DEFAULT_SHAPE gives every function byte. -/
def Obligations.ResponseLengthsFollowTheShape : Prop :=
  (∀ (c : Config) (u f k : Byte) (rest : List Byte),
    bodyLen c [] = none ∧ bodyLen c [u] = none ∧
    (∀ n, shapeOf c f = .fixed n → bodyLen c (u :: f :: rest) = some n) ∧
    (shapeOf c f = .counted → bodyLen c [u, f] = none ∧ bodyLen c (u :: f :: k :: rest) = some (3 + k.toNat)) ∧
    (shapeOf c f = .unknown → bodyLen c (u :: f :: rest) = none)) ∧
  (∀ (c : Config) (m : List Byte) (l : Nat), configAllowed c → bodyLen c m = some l → 2 ≤ l ∧ l ≤ 258) ∧
  (∀ (c : Config) (m : List Byte), shapeOk c m = true ↔ bodyLen c m = some m.length) ∧
  (∀ (c : Config) (f : Byte), c.shapeRows = defaultShape → shapeOf c f =
    if f.toNat ∈ [0x01, 0x02, 0x03, 0x04, 0x0C, 0x11] then .counted
    else if f.toNat ∈ [0x05, 0x06, 0x0B, 0x0F, 0x10] then .fixed 6
    else if f.toNat = 0x07 ∨ 0x80 ≤ f.toNat then .fixed 3
    else .unknown)

/-- 44_framer_rx R175: a byte that arrives while no transaction is in flight changes no state; another goes to the receive
step of the mode, which the statements below give. -/
def Obligations.ReceivedByteGoesToTheReceiveStepOfTheMode : Prop :=
  ∀ (s : State) (b : Byte), encode (.evRx b) = .event (0x100#12 ||| b.setWidth 12) ∧
    (s.phase = .idle → exec (.evRx b) s = .next s) ∧
    (s.phase = .wait → s.mode = .rtu → exec (.evRx b) s = rxRtu b s) ∧
    (s.phase = .wait → s.mode = .ascii → exec (.evRx b) s = rxAscii b s) ∧
    (s.phase = .wait → s.mode = .bridge → exec (.evRx b) s = rxBridge b s)

/-- 44_framer_rx R176, R178, R179: the RTU receive step. The window with the byte is judged by its length L: too short, it
waits; a candidate of known length that passes `crc_ok` completes; any other candidate counts an iteration and either
reaches the cap, or the byte is judged again on the window without its first byte. -/
def Obligations.RtuReceiveStep : Prop :=
  ∀ (s : State) (b : Byte), s.phase = .wait → s.mode = .rtu → configAllowed s.cfg →
    let w := s.rxw ++ [b]
    let dropped := (s.iter + 1 = s.cfg.resyncCap → exec (.evRx b) s = .next (s.fail .transactionFailure)) ∧
      (s.iter + 1 ≠ s.cfg.resyncCap →
        exec (.evRx b) s = exec (.evRx b) { s with rxw := s.rxw.tail, iter := s.iter + 1 })
    (∀ l, bodyLen s.cfg w = some l →
      (w.length < l + 2 → exec (.evRx b) s = .next { s with rxw := w }) ∧
      (l + 2 ≤ w.length → crcOk (w.take (l + 2)) = true →
        exec (.evRx b) s = .next (s.deliver (w.take l) ((w.getD 1 0#8).getLsbD 7))) ∧
      (l + 2 ≤ w.length → crcOk (w.take (l + 2)) = false → dropped)) ∧
    (bodyLen s.cfg w = none →
      (w.length < 5 → exec (.evRx b) s = .next { s with rxw := w }) ∧ (5 ≤ w.length → dropped))

/-- Round trip in RTU mode: a message whose shape the configuration knows, sent as an RTU frame to a block that waits with
an empty window, is delivered whole at the frame's last byte (43_framer_tx R149, 44_framer_rx R176, R177, R195). -/
def Obligations.RtuFrameOfAMessageIsDelivered : Prop :=
  ∀ (s : State) (m : List Byte) (rest : List Input), s.phase = .wait → s.mode = .rtu → s.rxw = [] →
    shapeOk s.cfg m = true → s.inputs = inputsOf ((encRtu m).map .evRx) ++ rest →
    Host.Core.run core (encRtu m).length s =
      .next { s.deliver m ((m.getD 1 0#8).getLsbD 7) with inputs := rest }

/-- 44_framer_rx R180, R181, R182, R184, R185: the ASCII receive step, by sub-state; the end-of-frame checks apart. -/
def Obligations.AsciiReceiveStep : Prop :=
  ∀ (s : State) (c : Byte), s.phase = .wait → s.mode = .ascii →
    (c = 0x3A#8 → exec (.evRx c) s = .next { s with astate := .body, rxw := [], nib := none }) ∧
    (c ≠ 0x3A#8 → s.astate = .hunt → exec (.evRx c) s = .next s) ∧
    (s.astate = .body → c = 0x0D#8 → s.nib ≠ none → exec (.evRx c) s = .next (s.fail .transactionFailure)) ∧
    (s.astate = .body → c = 0x0D#8 → s.nib = none → exec (.evRx c) s = .next { s with astate := .cr }) ∧
    (s.astate = .body → c ≠ 0x3A#8 → c ≠ 0x0D#8 → hexDecode c = none →
      exec (.evRx c) s = .next (s.fail .transactionFailure)) ∧
    (∀ v, s.astate = .body → hexDecode c = some v → s.nib = none →
      exec (.evRx c) s = .next { s with nib := some v }) ∧
    (∀ v h, s.astate = .body → hexDecode c = some v → s.nib = some h → s.rxw.length = 259 →
      exec (.evRx c) s = .next (s.fail .invalidDataLength)) ∧
    (∀ v h, s.astate = .body → hexDecode c = some v → s.nib = some h → s.rxw.length ≠ 259 →
      exec (.evRx c) s = .next { s with rxw := s.rxw ++ [h ++ v], nib := none }) ∧
    (s.astate = .cr → c ≠ 0x3A#8 → c ≠ 0x0A#8 → exec (.evRx c) s = .next (s.fail .transactionFailure)) ∧
    (s.astate = .cr → c = 0x0A#8 → exec (.evRx c) s = asciiEnd s)

/-- 44_framer_rx R183: the end-of-frame checks at LF, in their order: emptiness, LRC, shape, then completion. -/
def Obligations.AsciiEndOfFrameChecks : Prop :=
  ∀ s : State, s.phase = .wait → s.mode = .ascii → s.astate = .cr →
    let m := s.rxw.take (s.rxw.length - 1)
    (s.rxw = [] → exec (.evRx 0x0A#8) s = .next (s.fail .transactionFailure)) ∧
    (s.rxw ≠ [] → lrcOk s.rxw = false → exec (.evRx 0x0A#8) s = .next (s.fail .transactionFailure)) ∧
    (lrcOk s.rxw = true → bodyLen s.cfg m ≠ some m.length →
      exec (.evRx 0x0A#8) s = .next (s.fail .invalidDataType)) ∧
    (lrcOk s.rxw = true → bodyLen s.cfg m = some m.length →
      exec (.evRx 0x0A#8) s = .next (s.deliver m ((m.getD 1 0#8).getLsbD 7)))

/-- Round trip in ASCII mode: from any sub-state and any window, the ASCII frame of a message whose shape is known is
delivered whole at its LF (43_framer_tx R150, 44_framer_rx R180 to R184, R195). -/
def Obligations.AsciiFrameOfAMessageIsDelivered : Prop :=
  ∀ (s : State) (m : List Byte) (rest : List Input), s.phase = .wait → s.mode = .ascii → m.length ≤ 258 →
    shapeOk s.cfg m = true → s.inputs = inputsOf ((encAscii m).map .evRx) ++ rest →
    Host.Core.run core (encAscii m).length s =
      .next { s.deliver m ((m.getD 1 0#8).getLsbD 7) with inputs := rest }

/-- 44_framer_rx R190 to R193: the bridge receive step, by the number n of bytes with this one. -/
def Obligations.BridgeReceiveStep : Prop :=
  ∀ (s : State) (b unit function : Byte) (data : List Byte), s.phase = .wait → s.mode = .bridge →
    s.txbuf = unit :: function :: data → configAllowed s.cfg →
    let w := s.rxw ++ [b]
    let stored := { s with rxw := w }
    let marked := { stored with exc := s.exc || b.getLsbD 7 }
    let finish := fun (u : State) =>
      (∀ l, bodyLen s.cfg (w.drop 6) = some l → w.length = 6 + l →
        exec (.evRx b) s = .next (u.deliver ((w.drop 6).take l) ((w.getD 7 0#8).getLsbD 7))) ∧
      ((∀ l, bodyLen s.cfg (w.drop 6) = some l → w.length ≠ 6 + l) → exec (.evRx b) s = .next u)
    (w.length ≤ 6 → exec (.evRx b) s = .next stored) ∧
    (w.length = 7 → b ≠ unit → exec (.evRx b) s = .next (stored.fail .transactionFailure)) ∧
    (w.length = 7 → b = unit → exec (.evRx b) s = .next stored) ∧
    (w.length = 8 → b ≠ function → exec (.evRx b) s = .next (marked.fail .transactionFailure)) ∧
    (w.length = 8 → b = function → shapeOf s.cfg b = .unknown →
      exec (.evRx b) s = .next (marked.fail .transactionFailure)) ∧
    (w.length = 8 → b = function → shapeOf s.cfg b ≠ .unknown → finish marked) ∧
    (9 ≤ w.length → finish stored)

/-- Round trip in BRIDGE mode: any six header bytes, then a message that echoes the command's unit and function and whose
shape is known, are delivered at the message's last byte (44_framer_rx R190, R192, R195). -/
def Obligations.BridgeFrameOfAMessageIsDelivered : Prop :=
  ∀ (s : State) (header m : List Byte) (rest : List Input), s.phase = .wait → s.mode = .bridge → s.rxw = [] →
    header.length = 6 → s.txbuf[0]? = m[0]? → s.txbuf[1]? = m[1]? → shapeOk s.cfg m = true →
    s.inputs = inputsOf ((header ++ m).map .evRx) ++ rest →
    Host.Core.run core (6 + m.length) s =
      .next { s.deliver m ((m.getD 1 0#8).getLsbD 7) with inputs := rest }

/-- 44_framer_rx R197: the timeout counts and fails a transaction in flight, and does nothing otherwise. -/
def Obligations.TimeoutFailsTheTransaction : Prop :=
  ∀ s : State,
    (s.phase = .wait → exec .evTimeout s =
      .next { s.fail .responseTimeout with tocnt := BitVec.ofNat 16 ((s.tocnt.toNat + 1) % 65536) }) ∧
    (s.phase = .idle → exec .evTimeout s = .next s) ∧ encode .evTimeout = .event 0x200#12

/-- 60_exceptions R239: the last byte of a response and a @TIMEOUT in both orders. Byte first, the timeout is ignored;
timeout first, ERR is 3 and the byte is discarded. -/
def Obligations.LastByteAndTimeoutInEitherOrder : Prop :=
  ∀ (s t : State) (b : Byte), s.phase = .wait → exec (.evRx b) s = .next t → t.done = true → s.done = false →
    (exec .evTimeout t = .next t ∧ t.tocnt = s.tocnt) ∧
    ∃ u, exec .evTimeout s = .next u ∧ u.err = 3#4 ∧ u.done = false ∧ exec (.evRx b) u = .next u

/-- 44_framer_rx R198 with the layout of 10_state R34: FR.STAT answers STATUS, field by field, and changes nothing. -/
def Obligations.FrStatAnswersTheStatusFields : Prop :=
  encode .frStat = .command 0x4600#16 ∧ ∀ s : State, ∃ v : Word, exec .frStat s = .next { s with answers := s.answers ++ [⟨0#4, v⟩] } ∧
    v.getLsbD 0 = decide (s.phase = .wait) ∧ v.getLsbD 1 = s.done ∧ v.getLsbD 2 = s.exc ∧ v.getLsbD 3 = false ∧
    v.extractLsb' 4 2 = s.link.code ∧ v.extractLsb' 6 2 = s.mode.code ∧ v.extractLsb' 8 4 = s.err ∧
    v.extractLsb' 12 4 = s.lerr ∧ [Link.disconnected, .connecting, .connected].map Link.code = [0#2, 1#2, 2#2] ∧
    [Mode.rtu, .ascii, .bridge].map Mode.code = [0#2, 1#2, 2#2]

/-- 44_framer_rx R199, R200, R201: the other read-back commands. -/
def Obligations.ReadBackCommandsAnswer : Prop :=
  ∀ s : State,
    exec .frRxlen s = .next { s with answers := s.answers ++ [⟨0#4, BitVec.ofNat 16 s.rxbuf.length⟩] } ∧
    (s.rxptr = s.rxbuf.length → exec .frRxpop s = .next { s with answers := s.answers ++ [⟨7#4, 0#16⟩] }) ∧
    (∀ v, s.rxbuf[s.rxptr]? = some v → exec .frRxpop s =
      .next { s with rxptr := s.rxptr + 1, answers := s.answers ++ [⟨0#4, v.setWidth 16⟩] }) ∧
    exec (.frCnt .messages) s = .next { s with answers := s.answers ++ [⟨0#4, s.msgcnt⟩] } ∧
    exec (.frCnt .timeouts) s = .next { s with answers := s.answers ++ [⟨0#4, s.tocnt⟩] } ∧
    encode .frRxlen = .command 0x4700#16 ∧ encode .frRxpop = .command 0x4800#16 ∧
    encode (.frCnt .messages) = .command 0x4900#16 ∧ encode (.frCnt .timeouts) = .command 0x4901#16

/-- 44_framer_rx R200 over a whole response: as many FR.RXPOP as bytes are left answer those bytes in order, and leave RXBUF
as it is. -/
def Obligations.RxpopDrainsTheResponseInOrder : Prop :=
  ∀ (s : State) (rest : List Input), s.rxptr ≤ s.rxbuf.length →
    s.inputs = inputsOf (List.replicate (s.rxbuf.length - s.rxptr) .frRxpop) ++ rest →
    Host.Core.run core (s.rxbuf.length - s.rxptr) s = .next { s with
      rxptr := s.rxbuf.length, inputs := rest,
      answers := s.answers ++ (s.rxbuf.drop s.rxptr).map fun v => ⟨0#4, v.setWidth 16⟩ }

/-! ## The link -/

/-- 45_link R211 and R212: FR.CONNECT and FR.DISCONNECT, in every state; neither is ever rejected. -/
def Obligations.ConnectAndDisconnect : Prop :=
  ∀ s : State,
    (s.link = .disconnected → exec .frConnect s =
      .next { s with link := .connecting, lerr := 0#4, answers := s.answers ++ [⟨0#4, 0#16⟩] }) ∧
    (s.link ≠ .disconnected → exec .frConnect s = .next { s with answers := s.answers ++ [⟨0#4, 0#16⟩] }) ∧
    (s.phase = .wait → exec .frDisconnect s =
      .next { s.fail .transactionFailure with link := .disconnected, answers := s.answers ++ [⟨0#4, 0#16⟩] }) ∧
    (s.phase = .idle → exec .frDisconnect s =
      .next { s with link := .disconnected, answers := s.answers ++ [⟨0#4, 0#16⟩] }) ∧
    encode .frConnect = .command 0x4100#16 ∧ encode .frDisconnect = .command 0x4200#16

/-- 45_link R213, R214, R215: the three link events, in every state; an event that does not fit changes nothing. -/
def Obligations.LinkEvents : Prop :=
  ∀ (s : State) (k : Nibble), (Instr.evLinkfail k).wellFormed = true →
    (s.link = .connecting → exec .evLinkok s = .next { s with link := .connected }) ∧
    (s.link ≠ .connecting → exec .evLinkok s = .next s) ∧
    (s.link = .connecting → exec (.evLinkfail k) s = .next { s with link := .disconnected, lerr := k }) ∧
    (s.link ≠ .connecting → exec (.evLinkfail k) s = .next s) ∧
    (s.link = .connected → s.phase = .wait →
      exec .evIofail s = .next { s.fail .connectionFailure with link := .disconnected }) ∧
    (s.link = .connected → s.phase = .idle → exec .evIofail s = .next { s with link := .disconnected }) ∧
    (s.link ≠ .connected → exec .evIofail s = .next s) ∧
    encode .evIofail = .event 0x300#12 ∧ encode .evLinkok = .event 0x400#12 ∧
    encode (.evLinkfail k) = .event (0x500#12 ||| k.setWidth 12)

/-- 45_link R210, complete over all instructions: LINK moves as the table says and not otherwise, with the effects on LERR
and on a transaction in flight; and reset goes to Disconnected. -/
def Obligations.LinkMovesOnlyAsTheTableSays : Prop :=
  (∀ (i : Instr) (s t : State), exec i s = .next t →
    t.link = linkAfter s.link i ∧
    (s.link = .disconnected → i = .frConnect → t.lerr = 0#4) ∧
    (∀ k, s.link = .connecting → i = .evLinkfail k → t.lerr = k) ∧
    (t.lerr ≠ s.lerr → (s.link = .disconnected ∧ i = .frConnect) ∨ (s.link = .connecting ∧ ∃ k, i = .evLinkfail k)) ∧
    (s.link = .connected → i = .evIofail → s.phase = .wait → t.phase = .idle ∧ t.err = 2#4) ∧
    (s.link = .connected → i = .frDisconnect → s.phase = .wait → t.phase = .idle ∧ t.err = 4#4)) ∧
  (∀ s : State, s.applyReset.link = .disconnected)

/-! ## Whole-machine rules -/

/-- The reset state meets the invariant (10_state R38, R39), whatever its RESYNC_CAP is. -/
def Obligations.InvariantHoldsAtReset : Prop := Inv State.reset

/-- 10_state R38: the eight items, with an allowed configuration, the known error codes and the window bounds that they
need, are kept by every step from every state that meets them. -/
def Obligations.InvariantIsKeptByEveryStep : Prop :=
  ∀ s t : State, Inv s → step s = .next t → Inv t

/-- 10_state R28: what the invariant says of the receive window's length in each mode. -/
def Obligations.InvariantBoundsTheWindow : Prop :=
  ∀ s : State, Inv s → (s.mode = .rtu → s.rxw.length ≤ 260) ∧ (s.mode = .ascii → s.rxw.length ≤ 259) ∧
    (s.mode = .bridge → s.rxw.length ≤ 264)

/-- From a state that meets the invariant the block never stops: every step goes on unless the input is a reserved event
word. -/
def Obligations.BlockNeverStopsUnderTheInvariant : Prop :=
  ∀ s : State, Inv s → (∃ t, step s = .next t) ∨
    (step s = .refused .reservedEvent ∧ ∃ ew rest e, s.inputs = .word (.event ew) :: rest ∧ decodeEvent ew = .error e)

/-- 60_exceptions R235 over all instructions: a command gives exactly one answer and an event none (00_scope R13), and a
command that answers a non-zero status answers value 0 and changes no state. -/
def Obligations.RejectedCommandsChangeNothing : Prop :=
  ∀ (i : Instr) (s t : State), exec i s = .next t →
    (i.isCommand = true → ∃ a, t.answers = s.answers ++ [a] ∧
      (a.st ≠ 0#4 → a.val = 0#16 ∧ t = { s with answers := s.answers ++ [a] })) ∧
    (i.isCommand = false → t.answers = s.answers)

/-- 60_exceptions R237: the checks on a command word in their order, decoding first. The first that fails gives the answer and
changes nothing, and a command no check of which fails is accepted. RXPTR within RXBUF is 10_state R38 item 2. -/
def Obligations.FirstFailedCheckGivesTheAnswer : Prop :=
  ∀ (s : State) (cw : Word) (rest : List Input), s.inputs = .word (.command cw) :: rest → s.rxptr ≤ s.rxbuf.length →
    (∀ e, decode (.command cw) = .error e →
      step s = .next { s with inputs := rest, answers := s.answers ++ [⟨14#4, 0#16⟩] }) ∧
    (∀ i kind, decode (.command cw) = .ok i → firstFailedCheck i s = some kind →
      step s = .next { s with inputs := rest, answers := s.answers ++ [⟨kind.code, 0#16⟩] }) ∧
    (∀ i, decode (.command cw) = .ok i → firstFailedCheck i s = none →
      ∃ t v, step s = .next t ∧ t.answers = s.answers ++ [⟨0#4, v⟩])

/-- 10_state R24 over all instructions: PH goes to WAIT only by an accepted FR.XACT and back to IDLE only by a completed or
a failed transaction. -/
def Obligations.PhaseMovesOnlyByXactCompleteAndFail : Prop :=
  ∀ (i : Instr) (s t : State), exec i s = .next t →
    (s.phase = .idle → t.phase = .wait → startsTransaction i s) ∧
    (s.phase = .wait → t.phase = .idle →
      (t.done = true ∧ t.err = 0#4 ∧ ∃ b, i = .evRx b) ∨
      (t.done = false ∧ t.err ≠ 0#4 ∧ t.rxbuf = [] ∧
        ((∃ b, i = .evRx b) ∨ i = .evTimeout ∨ i = .evIofail ∨ i = .frDisconnect)))

/-- 70_reset R266: in an outside that keeps its duty (the fairness assumption, no part of the step) every transaction in
flight ends; and in an outside that stays silent BUSY stays 1 for ever. -/
def Obligations.EveryTransactionEndsIfTheEnvironmentKeepsItsDuty : Prop :=
  (∀ (out : Outside) (s : State), Inv s → EnvironmentKeepsItsDuty out s → ∀ n u, stateAfter out s n = .next u →
    u.phase = .wait → ∃ m v, n ≤ m ∧ stateAfter out s m = .next v ∧ v.phase = .idle) ∧
  (∀ (s : State) (n : Nat), s.phase = .wait → ∃ u, stateAfter (fun _ => none) s n = .next u ∧ u.busy = true)

/-! ## Frames -/

/-- Frame of the commands: those that only read change nothing but the record of answers (20_memory R55), the others one
register or buffer: CRC, SUM, MODE, TXBUF, RXPTR (10_state R21, R22, R23, R26, R31). -/
def Obligations.CommandsChangeOnlyTheirRegister : Prop :=
  (∀ (i : Instr) (s t : State) (b : Byte) (k : CounterSelect),
    i ∈ [.crcRd, .crcChk, .lrcRd, .lrcChk, .hexEnc b, .hexDec b, .frStat, .frRxlen, .frCnt k] →
    exec i s = .next t → t = { s with answers := t.answers }) ∧
  ∀ (s t : State) (b : Byte) (m : BitVec 2),
    (exec .crcInit s = .next t ∨ exec (.crcUpd b) s = .next t → t = { s with crc := t.crc, answers := t.answers }) ∧
    (exec .lrcInit s = .next t ∨ exec (.lrcUpd b) s = .next t → t = { s with sum := t.sum, answers := t.answers }) ∧
    (exec (.frMode m) s = .next t → t = { s with mode := t.mode, answers := t.answers }) ∧
    (exec .frTxclr s = .next t ∨ exec (.frTxpush b) s = .next t →
      t = { s with txbuf := t.txbuf, answers := t.answers }) ∧
    (exec .frRxpop s = .next t → t = { s with rxptr := t.rxptr, answers := t.answers })

/-- Frame of FR.XACT and of the events on a transaction: TXBUF, MODE, LINK, LERR, CRC and SUM stay, FR.XACT leaves TOCNT
alone and the events leave TXID, MSGCNT, LINE_OUT and the answers alone (43_framer_tx R146, 44_framer_rx R195, 60_exceptions
R236). -/
def Obligations.TransactionsLeaveTheOtherRegistersAlone : Prop :=
  ∀ (s t : State) (b : Byte),
    (exec .frXact s = .next t → t.txbuf = s.txbuf ∧ t.mode = s.mode ∧ t.link = s.link ∧ t.lerr = s.lerr ∧
      t.tocnt = s.tocnt ∧ t.crc = s.crc ∧ t.sum = s.sum ∧ t.cfg = s.cfg ∧ t.inputs = s.inputs) ∧
    (exec (.evRx b) s = .next t → t = { s with
      rxw := t.rxw, nib := t.nib, iter := t.iter, astate := t.astate, phase := t.phase, rxbuf := t.rxbuf,
      rxptr := t.rxptr, done := t.done, exc := t.exc, err := t.err }) ∧
    (exec .evTimeout s = .next t → t = { s with
      tocnt := t.tocnt, rxw := t.rxw, nib := t.nib, iter := t.iter, astate := t.astate, phase := t.phase,
      rxbuf := t.rxbuf, rxptr := t.rxptr, done := t.done, err := t.err })

/-- Frame of the link's commands and events: EXC and all that is not LINK, LERR or written by `fail` stays; while idle only
LINK and LERR move (45_link R211 to R215). -/
def Obligations.LinkInputsLeaveTheOtherRegistersAlone : Prop :=
  ∀ (i : Instr) (s t : State) (k : Nibble), i ∈ [.frConnect, .frDisconnect, .evLinkok, .evLinkfail k, .evIofail] →
    exec i s = .next t →
    (s.phase = .idle → t = { s with link := t.link, lerr := t.lerr, answers := t.answers }) ∧
    (s.phase = .wait → t = { s with
      link := t.link, lerr := t.lerr, answers := t.answers, rxw := t.rxw, nib := t.nib, iter := t.iter,
      astate := t.astate, phase := t.phase, rxbuf := t.rxbuf, rxptr := t.rxptr, done := t.done, err := t.err })
end

