-- ==== Sys2Proof/Laws/Checksum.lean ====
section
/-! SUPPORT. Laws of the checksum functions: the CRC step is linear and loses nothing; the LRC is the negated byte sum. -/

namespace Sys2Proof.Machine

/-- The shift step is linear over XOR. -/
theorem crcShift_xor (a b : Word) : crcShift (a ^^^ b) = crcShift a ^^^ crcShift b := by
  unfold crcShift
  rw [BitVec.getLsbD_xor]
  cases ha : a.getLsbD 0 <;> cases hb : b.getLsbD 0 <;> simp [BitVec.ushiftRight_xor_distrib]
  · rw [BitVec.xor_assoc]
  · ac_rfl
  · have : a >>> 1 ^^^ crcPolynomial ^^^ (b >>> 1 ^^^ crcPolynomial) =
        a >>> 1 ^^^ b >>> 1 ^^^ (crcPolynomial ^^^ crcPolynomial) := by ac_rfl
    simp [this]

theorem crcShifts_xor (n : Nat) (a b : Word) : crcShifts n (a ^^^ b) = crcShifts n a ^^^ crcShifts n b := by
  induction n generalizing a b with
  | zero => rfl
  | succ n ih => rw [crcShifts, crcShift_xor, ih]; rfl

/-- The shift step loses nothing. -/
theorem crcShift_eq_zero {a : Word} (h : crcShift a = 0#16) : a = 0#16 := by
  unfold crcShift at h
  split at h
  · have := congrArg (fun v => BitVec.getLsbD v 15) h
    simp [crcPolynomial] at this
  · rename_i h0
    apply BitVec.eq_of_getLsbD_eq
    intro i hi
    rcases i with _ | i
    · simpa using h0
    · have := congrArg (fun v => BitVec.getLsbD v i) h
      simpa [Nat.add_comm] using this

theorem crcShifts_eq_zero {n : Nat} {a : Word} (h : crcShifts n a = 0#16) : a = 0#16 := by
  induction n generalizing a with
  | zero => exact h
  | succ n ih => exact crcShift_eq_zero (ih h)

theorem crcShifts_injective {n : Nat} {a b : Word} (h : crcShifts n a = crcShifts n b) : a = b := by
  have : crcShifts n (a ^^^ b) = 0#16 := by rw [crcShifts_xor, h, BitVec.xor_self]
  exact BitVec.xor_eq_zero_iff.1 (crcShifts_eq_zero this)

/-- While only zero bits are shifted out, the polynomial never enters. -/
theorem crcShifts_of_low_zero (n : Nat) (a : Word) (h : ∀ i, i < n → a.getLsbD i = false) :
    crcShifts n a = a >>> n := by
  induction n generalizing a with
  | zero => simp [crcShifts]
  | succ n ih =>
    have h0 : crcShift a = a >>> 1 := by unfold crcShift; rw [h 0 (Nat.succ_pos n)]; rfl
    have h1 : ∀ i, i < n → (a >>> 1).getLsbD i = false :=
      fun i hi => by simpa [Nat.add_comm] using h (i + 1) (by omega)
    rw [crcShifts, h0, ih _ h1, ← BitVec.shiftRight_add, Nat.add_comm]

/-- Different registers stay different over the same byte. -/
theorem crc16Step_injective_left {b : Byte} {c d : Word} (h : crc16Step c b = crc16Step d b) : c = d := by
  have := crcShifts_injective h
  simpa using this

/-- Different bytes lead to different registers. -/
theorem crc16Step_injective_right {c : Word} {b d : Byte} (h : crc16Step c b = crc16Step c d) : b = d := by
  have := crcShifts_injective h
  have h2 : b.setWidth 16 = d.setWidth 16 := by simpa using this
  have := congrArg (BitVec.setWidth 8) h2
  simpa using this

theorem crcFold_injective {s : List Byte} {c d : Word} (h : s.foldl crc16Step c = s.foldl crc16Step d) : c = d := by
  induction s generalizing c d with
  | nil => exact h
  | cons b s ih => exact crc16Step_injective_left (ih h)

/-- The two bytes put after a CRC value bring it to zero, and no other two do. -/
theorem crc16Step_twice_eq_zero_iff (c : Word) (lo hi : Byte) :
    crc16Step (crc16Step c lo) hi = 0#16 ↔ c = lo.setWidth 16 ||| (hi.setWidth 16 <<< 8) := by
  have hlow : crcShifts 8 (hi.setWidth 16 <<< 8) = hi.setWidth 16 := by
    rw [crcShifts_of_low_zero 8 _ (fun i hi' => by simp [hi'])]
    apply BitVec.eq_of_getLsbD_eq
    intro i hi'
    simp only [BitVec.getLsbD_ushiftRight, BitVec.getLsbD_shiftLeft, BitVec.getLsbD_setWidth]
    by_cases h8 : 8 + i < 16
    · simp [h8, hi']
    · simp [h8, BitVec.getLsbD_of_ge hi i (by omega)]
  have hor : lo.setWidth 16 ||| (hi.setWidth 16 <<< 8) = (hi.setWidth 16 <<< 8) ^^^ lo.setWidth 16 := by
    apply BitVec.eq_of_getLsbD_eq
    intro i hi'
    simp only [BitVec.getLsbD_or, BitVec.getLsbD_xor, BitVec.getLsbD_shiftLeft, BitVec.getLsbD_setWidth]
    by_cases h8 : i < 8
    · simp [h8]
    · simp [h8, BitVec.getLsbD_of_ge lo i (by omega)]
  rw [hor]
  constructor
  · intro h
    have h1 := BitVec.xor_eq_zero_iff.1 (crcShifts_eq_zero h)
    rw [← hlow] at h1
    rw [← crcShifts_injective h1, BitVec.xor_assoc, BitVec.xor_self, BitVec.xor_zero]
  · intro h
    unfold crc16Step
    rw [h, BitVec.xor_assoc, BitVec.xor_self, BitVec.xor_zero, hlow, BitVec.xor_self]
    decide

/-- The CRC of a sequence with more bytes after it: those bytes are fed to its CRC. -/
theorem crc16_append (s u : List Byte) : crc16 (s ++ u) = u.foldl crc16Step (crc16 s) := by
  simp [crc16, List.foldl_append]

theorem foldl_add_byte (s : List Byte) (t : Byte) : s.foldl (· + ·) t = t + byteSum s := by
  induction s generalizing t with
  | nil => simp [byteSum]
  | cons b s ih =>
    have h0 : byteSum (b :: s) = (0#8 + b) + byteSum s := by simp only [byteSum, List.foldl_cons]; exact ih _
    rw [List.foldl_cons, ih, h0, BitVec.zero_add, BitVec.add_assoc]

theorem byteSum_append (s u : List Byte) : byteSum (s ++ u) = byteSum s + byteSum u := by
  simp only [byteSum, List.foldl_append]; exact foldl_add_byte u _

/-- The byte sum is the sum of the bytes' numbers modulo 256 (41_lrc R120). -/
theorem byteSum_toNat (s : List Byte) : (byteSum s).toNat = (s.map BitVec.toNat).sum % 256 := by
  induction s with
  | nil => rfl
  | cons b s ih =>
    have h0 : byteSum (b :: s) = b + byteSum s := by simpa [byteSum] using foldl_add_byte s (0#8 + b)
    rw [h0, BitVec.toNat_add, ih]; simp

/-- `(256 - t) mod 256` is the two's complement (41_lrc R120). -/
theorem negateSum_eq_neg (t : Byte) : negateSum t = -t := by
  apply BitVec.eq_of_toNat_eq
  simp [negateSum, BitVec.toNat_neg]

theorem lrc_eq_neg (s : List Byte) : lrc s = -byteSum s := negateSum_eq_neg _

end Sys2Proof.Machine
end

