-- ==== Sys2Proof/Laws/Codec.lean ====
section
/-! SUPPORT. The fields of a word are the parts it was put together from, and a word is its fields put together
(30_encoding R70, R75). -/

namespace Sys2Proof

theorem opField_append (op arg : Byte) : opField (op ++ arg) = op := by
  apply BitVec.eq_of_getLsbD_eq
  intro i hi
  simp only [opField, BitVec.getLsbD_extractLsb', BitVec.getLsbD_append, hi]
  simp

theorem argField_append (op arg : Byte) : argField (op ++ arg) = arg := by
  apply BitVec.eq_of_getLsbD_eq
  intro i hi
  simp only [argField, BitVec.getLsbD_extractLsb', BitVec.getLsbD_append, hi]
  simp [hi]

theorem kindField_append (kind : Nibble) (data : Byte) : kindField (kind ++ data) = kind := by
  apply BitVec.eq_of_getLsbD_eq
  intro i hi
  simp only [kindField, BitVec.getLsbD_extractLsb', BitVec.getLsbD_append, hi]
  simp

theorem dataField_append (kind : Nibble) (data : Byte) : dataField (kind ++ data) = data := by
  apply BitVec.eq_of_getLsbD_eq
  intro i hi
  simp only [dataField, BitVec.getLsbD_extractLsb', BitVec.getLsbD_append, hi]
  simp [hi]

theorem append_command_fields (cw : Word) : opField cw ++ argField cw = cw := by
  apply BitVec.eq_of_getLsbD_eq
  intro i hi
  simp only [opField, argField, BitVec.getLsbD_extractLsb', BitVec.getLsbD_append]
  by_cases h : i < 8
  · simp [h]
  · have h8 : 8 + (i - 8) = i := by omega
    simp [h, h8]; omega

theorem append_event_fields (ew : EventWord) : kindField ew ++ dataField ew = ew := by
  apply BitVec.eq_of_getLsbD_eq
  intro i hi
  simp only [kindField, dataField, BitVec.getLsbD_extractLsb', BitVec.getLsbD_append]
  by_cases h : i < 8
  · simp [h]
  · have h8 : 8 + (i - 8) = i := by omega
    simp [h, h8]; omega

end Sys2Proof
end

