-- ==== Sys2Proof/Laws/Environment.lean ====
section
/-! SUPPORT. The result after one more input of a stream (70_reset R266). -/

namespace Sys2Proof.Machine

theorem stateAfter_succ {out : Outside} {s u : State} {n : Nat} (h : stateAfter out s n = .next u) :
    stateAfter out s (n + 1) = step { u with inputs := (out n).toList } := by
  simp only [stateAfter, h]

/-- A run that goes on for one more input went on before it. -/
theorem stateAfter_succ_eq_next {out : Outside} {s v : State} {n : Nat} (h : stateAfter out s (n + 1) = .next v) :
    ∃ u, stateAfter out s n = .next u ∧ step { u with inputs := (out n).toList } = .next v := by
  simp only [stateAfter] at h
  split at h
  · exact ⟨_, ‹_›, h⟩
  · cases h
  · cases h

end Sys2Proof.Machine
end

