-- ==== Sys2Proof/Laws/HexCodec.lean ====
section
/-! SUPPORT. Laws of the hex codec's functions (42_hex R130 to R132). -/

namespace Sys2Proof.Machine

theorem hexDecode_hexEncode (n : Nibble) : hexDecode (hexEncode n) = some n := by
  revert n; decide

/-- The decoder accepts the encoder's alphabet and nothing else (42_hex R131). -/
theorem hexEncode_of_hexDecode {c : Byte} {n : Nibble} (h : hexDecode c = some n) : hexEncode n = c := by
  revert c n; decide

/-- No delimiter is a hex character (43_framer_tx R150). -/
theorem hexEncode_ne_delimiter (n : Nibble) :
    hexEncode n ≠ colon ∧ hexEncode n ≠ carriageReturn ∧ hexEncode n ≠ lineFeed := by
  revert n; decide

theorem hexDecode_delimiters :
    hexDecode colon = none ∧ hexDecode carriageReturn = none ∧ hexDecode lineFeed = none := by decide

theorem joinNibbles_eq_append (h l : Nibble) : joinNibbles h l = h ++ l := by
  revert h l; decide

theorem joinNibbles_nibbles (b : Byte) : joinNibbles (highNibble b) (lowNibble b) = b := by
  revert b; decide

theorem hexPairs_cons (b : Byte) (s : List Byte) :
    hexPairs (b :: s) = hexEncode (highNibble b) :: hexEncode (lowNibble b) :: hexPairs s := rfl

theorem hexPairs_append (s u : List Byte) : hexPairs (s ++ u) = hexPairs s ++ hexPairs u := by
  simp [hexPairs]

end Sys2Proof.Machine
end

