-- ==== Sys2Proof/Laws/Ops.lean ====
section
/-! SUPPORT. The shared operations, each said once: BUSY, operands, `complete`, and `fail` of a transaction in flight. -/

namespace Sys2Proof.Machine

theorem busy_eq_true_iff {s : State} : s.busy = true ↔ s.phase = .wait := by simp [State.busy]

theorem busy_eq_false_iff {s : State} : s.busy = false ↔ s.phase = .idle := by
  cases h : s.phase <;> simp [State.busy, h]

theorem failIfBusy_of_wait {s : State} (kind : ErrorKind) (h : s.phase = .wait) : s.failIfBusy kind = s.fail kind := by
  simp [State.failIfBusy, State.busy, h]

theorem failIfBusy_of_idle {s : State} (kind : ErrorKind) (h : s.phase = .idle) : s.failIfBusy kind = s := by
  simp [State.failIfBusy, State.busy, h]

/-- The mode an operand names is the one with that number (10_state R23). -/
theorem code_of_modeOfOperand {m : BitVec 2} {mode : Mode} (h : modeOfOperand m = some mode) : mode.code = m := by
  revert mode; revert m; decide

theorem modeOfOperand_eq_none_iff (m : BitVec 2) : modeOfOperand m = none ↔ m = 3#2 := by
  revert m; decide

/-- The kind a @LINKFAIL operand names is the one with that code (30_encoding R76). -/
theorem code_of_linkfailKind {k : Nibble} {kind : ErrorKind} (h : linkfailKind k = some kind) : kind.code = k := by
  revert kind; revert k; decide

theorem linkfailKind_isSome (k : Nibble) : (linkfailKind k).isSome = (Instr.evLinkfail k).wellFormed := by
  revert k; decide

/-- Everything `complete` can do when it goes on (44_framer_rx R195). -/
theorem complete_next {m : List Byte} {s t : State} (h : complete m s = .next t) :
    2 ≤ m.length ∧ t = s.deliver m (exceptionBit (m.getD 1 0#8)) := by
  match m, h with
  | _ :: f :: rest, h => simp only [complete, Host.Outcome.next.injEq] at h; subst h; exact ⟨by simp, rfl⟩

theorem complete_cons_cons (u f : Byte) (rest : List Byte) (s : State) :
    complete (u :: f :: rest) s = .next (s.deliver (u :: f :: rest) (exceptionBit f)) := rfl

end Sys2Proof.Machine
end

