-- ==== Sys2Proof/Laws/PerInstr.lean ====
section
/-! SUPPORT. One lemma per instruction about its syntax: its own word meets the mask and the match of its row of the opcode
map (30_encoding R72, R76). -/

namespace Sys2Proof.Laws.TableRow

/-- The mask and the match of an instruction's row; an event's twelve bits count as a 16-bit number. -/
def row : Instr → Word × Word
  | .crcInit => (0xFFFF#16, 0x1000#16)
  | .crcUpd _ => (0xFF00#16, 0x1100#16)
  | .crcRd => (0xFFFF#16, 0x1200#16)
  | .crcChk => (0xFFFF#16, 0x1300#16)
  | .lrcInit => (0xFFFF#16, 0x2000#16)
  | .lrcUpd _ => (0xFF00#16, 0x2100#16)
  | .lrcRd => (0xFFFF#16, 0x2200#16)
  | .lrcChk => (0xFFFF#16, 0x2300#16)
  | .hexEnc _ => (0xFF00#16, 0x3000#16)
  | .hexDec _ => (0xFF00#16, 0x3100#16)
  | .frMode _ => (0xFFFC#16, 0x4000#16)
  | .frConnect => (0xFFFF#16, 0x4100#16)
  | .frDisconnect => (0xFFFF#16, 0x4200#16)
  | .frTxclr => (0xFFFF#16, 0x4300#16)
  | .frTxpush _ => (0xFF00#16, 0x4400#16)
  | .frXact => (0xFFFF#16, 0x4500#16)
  | .frStat => (0xFFFF#16, 0x4600#16)
  | .frRxlen => (0xFFFF#16, 0x4700#16)
  | .frRxpop => (0xFFFF#16, 0x4800#16)
  | .frCnt _ => (0xFFFE#16, 0x4900#16)
  | .evRx _ => (0xF00#16, 0x100#16)
  | .evTimeout => (0xFFF#16, 0x200#16)
  | .evIofail => (0xFFF#16, 0x300#16)
  | .evLinkok => (0xFFF#16, 0x400#16)
  | .evLinkfail _ => (0xFF0#16, 0x500#16)

/-- A port word as a 16-bit number. -/
def number : PortWord → Word
  | .command cw => cw
  | .event ew => ew.setWidth 16

/-- The instruction's own word meets its row. -/
def Statement (i : Instr) : Prop := number (encode i) &&& (row i).1 = (row i).2

theorem crcInit : Statement .crcInit := by unfold Statement; decide

theorem crcUpd (b : Byte) : Statement (.crcUpd b) := by unfold Statement; revert b; decide

theorem crcRd : Statement .crcRd := by unfold Statement; decide

theorem crcChk : Statement .crcChk := by unfold Statement; decide

theorem lrcInit : Statement .lrcInit := by unfold Statement; decide

theorem lrcUpd (b : Byte) : Statement (.lrcUpd b) := by unfold Statement; revert b; decide

theorem lrcRd : Statement .lrcRd := by unfold Statement; decide

theorem lrcChk : Statement .lrcChk := by unfold Statement; decide

theorem hexEnc (b : Byte) : Statement (.hexEnc b) := by unfold Statement; revert b; decide

theorem hexDec (c : Byte) : Statement (.hexDec c) := by unfold Statement; revert c; decide

theorem frMode (m : BitVec 2) : Statement (.frMode m) := by unfold Statement; revert m; decide

theorem frConnect : Statement .frConnect := by unfold Statement; decide

theorem frDisconnect : Statement .frDisconnect := by unfold Statement; decide

theorem frTxclr : Statement .frTxclr := by unfold Statement; decide

theorem frTxpush (b : Byte) : Statement (.frTxpush b) := by unfold Statement; revert b; decide

theorem frXact : Statement .frXact := by unfold Statement; decide

theorem frStat : Statement .frStat := by unfold Statement; decide

theorem frRxlen : Statement .frRxlen := by unfold Statement; decide

theorem frRxpop : Statement .frRxpop := by unfold Statement; decide

theorem frCnt (k : CounterSelect) : Statement (.frCnt k) := by cases k <;> (unfold Statement; decide)

theorem evRx (b : Byte) : Statement (.evRx b) := by unfold Statement; revert b; decide

theorem evTimeout : Statement .evTimeout := by unfold Statement; decide

theorem evIofail : Statement .evIofail := by unfold Statement; decide

theorem evLinkok : Statement .evLinkok := by unfold Statement; decide

theorem evLinkfail (k : Nibble) : Statement (.evLinkfail k) := by unfold Statement; revert k; decide

end Sys2Proof.Laws.TableRow
end

