-- ==== Sys2Proof/Laws/Shape.lean ====
section
/-! SUPPORT. Laws of response shapes: `body_len` needs two bytes, its value is within 00_scope R9's bounds, and more bytes
do not change it (44_framer_rx R171, R173). -/

namespace Sys2Proof.Machine

theorem lookupShape_fixed_bounds {rows : List ShapeRow} {f : Byte} {n : Nat} (ha : rows.all rowAllowed = true)
    (h : lookupShape rows f = .fixed n) : 2 ≤ n ∧ n ≤ 258 := by
  induction rows with
  | nil => simp [lookupShape] at h
  | cons r rs ih =>
    simp only [List.all_cons, Bool.and_eq_true] at ha
    simp only [lookupShape] at h
    split at h
    · simpa [rowAllowed, h] using ha.1
    · exact ih ha.2 h

theorem length_of_bodyLen {c : Config} {m : List Byte} {l : Nat} (h : bodyLen c m = some l) : 2 ≤ m.length := by
  match m, h with
  | _ :: _ :: rest, _ => simp

theorem bodyLen_bounds {c : Config} {m : List Byte} {l : Nat} (ha : configAllowed c) (h : bodyLen c m = some l) :
    2 ≤ l ∧ l ≤ 258 := by
  match m, h with
  | _ :: f :: rest, h =>
    simp only [bodyLen] at h
    split at h
    · rename_i n hs; cases h; exact lookupShape_fixed_bounds ha.2 hs
    · split at h
      · cases h
      · rename_i count _; cases h; have := count.isLt; omega
    · cases h

theorem bodyLen_append {c : Config} {m : List Byte} {l : Nat} (h : bodyLen c m = some l) (x : List Byte) :
    bodyLen c (m ++ x) = some l := by
  match m, h with
  | [_, f], h => simp only [bodyLen] at h ⊢; split at h <;> simp_all
  | _ :: f :: _ :: rest, h => simpa [bodyLen] using h

end Sys2Proof.Machine
end

