-- ==== Sys2Proof/Laws/Receive.lean ====
section
/-! SUPPORT. The receive side: the RTU loop (44_framer_rx R176 to R179), the end of an ASCII frame (R183), the end of a
bridge response (R190), and everything a received byte can do. -/

namespace Sys2Proof.Machine

theorem rtuNeed_pos (c : Config) (w : List Byte) : 0 < rtuNeed c w := by
  unfold rtuNeed; split <;> simp [minRtu]

theorem rtuScan_short {c : Config} {w : List Byte} {n : Nat} (h : w.length < rtuNeed c w) :
    rtuScan c w n = .waiting w n := by
  cases w with
  | nil => rfl
  | cons b rest => simp only [rtuScan, h, if_true]

theorem rtuScan_long {c : Config} {b : Byte} {rest : List Byte} {n : Nat}
    (h : rtuNeed c (b :: rest) ≤ (b :: rest).length) :
    rtuScan c (b :: rest) n = match rtuMessage c (b :: rest) with
      | some m => .found m
      | none => if n + 1 = c.resyncCap then .capReached else rtuScan c rest (n + 1) := by
  have : ¬ (b :: rest).length < rtuNeed c (b :: rest) := by omega
  exact if_neg this

/-- A window left waiting is too short for its `need`, and ITER stays below the cap. -/
theorem rtuScan_waiting {c : Config} {w w' : List Byte} {n n' : Nat} (h : rtuScan c w n = .waiting w' n') :
    w'.length < rtuNeed c w' ∧ (n < c.resyncCap → n' < c.resyncCap) := by
  induction w generalizing n with
  | nil =>
    simp only [rtuScan, RtuVerdict.waiting.injEq] at h
    obtain ⟨rfl, rfl⟩ := h
    exact ⟨rtuNeed_pos _ _, id⟩
  | cons b rest ih =>
    by_cases hl : (b :: rest).length < rtuNeed c (b :: rest)
    · rw [rtuScan_short hl] at h; cases h; exact ⟨hl, id⟩
    · rw [rtuScan_long (by omega)] at h
      split at h
      · cases h
      · split at h
        · cases h
        · have := ih h; exact ⟨this.1, fun hn => this.2 (by omega)⟩

theorem rtuMessage_eq_some {c : Config} {w m : List Byte} (h : rtuMessage c w = some m) :
    ∃ l, bodyLen c w = some l ∧ crcOk (w.take (l + 2)) = true ∧ m = w.take l := by
  unfold rtuMessage at h
  split at h
  · rename_i l hl
    split at h
    · cases h; exact ⟨l, hl, ‹_›, rfl⟩
    · cases h
  · cases h

/-- A found message is the front of some shorter window, at the length that window's `body_len` gives. -/
theorem rtuScan_found {c : Config} {w m : List Byte} {n : Nat} (h : rtuScan c w n = .found m) :
    ∃ w' l, bodyLen c w' = some l ∧ l + 2 ≤ w'.length ∧ m = w'.take l := by
  induction w generalizing n with
  | nil => simp [rtuScan] at h
  | cons b rest ih =>
    by_cases hl : (b :: rest).length < rtuNeed c (b :: rest)
    · rw [rtuScan_short hl] at h; cases h
    · rw [rtuScan_long (by omega)] at h
      split at h
      · cases h
        rename_i hm
        obtain ⟨l, h1, h2, h3⟩ := rtuMessage_eq_some hm
        refine ⟨_, l, h1, ?_, h3⟩
        simp only [rtuNeed, h1] at hl; omega
      · split at h
        · cases h
        · exact ih h

/-- The three things a received byte can do: the transaction goes on (or none is in flight), completes, or fails. -/
inductive ReceiveResult (s t : State) : Prop where
  | goesOn (h : t = { s with rxw := t.rxw, nib := t.nib, iter := t.iter, astate := t.astate, exc := t.exc })
  | completes (m : List Byte) (hp : s.phase = .wait) (hm : 2 ≤ m.length)
      (ht : t = s.deliver m (exceptionBit (m.getD 1 0#8)))
  | fails (kind : ErrorKind) (e : Bool)
      (hk : kind = .transactionFailure ∨ kind = .invalidDataLength ∨ kind = .invalidDataType)
      (hp : s.phase = .wait) (ht : t = { s with exc := e }.fail kind)

/-- Everything the last lines of 44_framer_rx R190 can do. -/
theorem bridgeFinish_next {s t : State} (h : bridgeFinish s = .next t) :
    (t = s ∧ (bodyLen s.cfg (s.rxw.drop 6)).all (fun l => decide (s.rxw.length ≠ 6 + l)) = true) ∨
    ∃ l, bodyLen s.cfg (s.rxw.drop 6) = some l ∧ s.rxw.length = 6 + l ∧ 2 ≤ l ∧
      t = s.deliver ((s.rxw.drop 6).take l) (exceptionBit (((s.rxw.drop 6).take l).getD 1 0#8)) := by
  unfold bridgeFinish at h
  split at h
  · rename_i l hl
    split at h
    · obtain ⟨h1, h2⟩ := complete_next h
      simp at h1
      exact .inr ⟨l, hl, ‹_›, by omega, h2⟩
    · cases h; left; simp [*]
  · cases h; left; simp [*]

/-- Everything the end-of-frame checks can do (44_framer_rx R183). -/
theorem asciiEnd_next {s t : State} (h : asciiEnd s = .next t) :
    (∃ kind, (kind = .transactionFailure ∨ kind = .invalidDataType) ∧ t = s.fail kind) ∨
    (2 ≤ (s.rxw.take (s.rxw.length - 1)).length ∧ shapeOk s.cfg (s.rxw.take (s.rxw.length - 1)) = true ∧
      t = s.deliver (s.rxw.take (s.rxw.length - 1)) (exceptionBit ((s.rxw.take (s.rxw.length - 1)).getD 1 0#8))) := by
  unfold asciiEnd at h
  split at h
  · cases h; exact .inl ⟨_, .inl rfl, rfl⟩
  · split at h
    · cases h; exact .inl ⟨_, .inl rfl, rfl⟩
    · dsimp only at h
      split at h
      · cases h; exact .inl ⟨_, .inr rfl, rfl⟩
      · obtain ⟨h1, h2⟩ := complete_next h
        exact .inr ⟨h1, Bool.eq_true_of_not_eq_false ‹_›, h2⟩

/-- Everything a received byte can do (44_framer_rx R175). -/
theorem execEvRx_next {b : Byte} {s t : State} (h : execEvRx b s = .next t) : ReceiveResult s t := by
  unfold execEvRx at h
  split at h
  · cases h; exact .goesOn rfl
  rename_i hp
  split at h
  · unfold rxRtu at h
    split at h
    · cases h; exact .goesOn rfl
    · obtain ⟨h1, h2⟩ := complete_next h; exact .completes _ hp h1 h2
    · cases h; exact .fails _ s.exc (.inl rfl) hp rfl
  · unfold rxAscii asciiBody at h
    repeat' split at h
    all_goals first
      | (cases h; exact .goesOn rfl)
      | (cases h; exact .fails _ s.exc (by simp) hp rfl)
      | skip
    rcases asciiEnd_next h with ⟨kind, hk, rfl⟩ | ⟨h1, -, h2⟩
    · exact .fails kind s.exc (by tauto) hp rfl
    · exact .completes _ hp h1 h2
  · unfold rxBridge bridgeUnit bridgeFunction at h
    simp only at h
    repeat' split at h
    all_goals first
      | (cases h; exact .goesOn rfl)
      | (cases h; exact .fails _ _ (.inl rfl) hp rfl)
      | cases h
      | skip
    all_goals
      rcases bridgeFinish_next h with ⟨rfl, -⟩ | ⟨l, hl, hw, h2, rfl⟩
      · exact .goesOn rfl
      · refine .completes _ hp ?_ rfl
        simp at hw ⊢; omega

theorem evRx_rtu {s : State} {b : Byte} (hp : s.phase = .wait) (hm : s.mode = .rtu) :
    exec (.evRx b) s = rxRtu b s := by
  simp only [exec, execEvRx, hp, hm]

theorem evRx_ascii {s : State} {b : Byte} (hp : s.phase = .wait) (hm : s.mode = .ascii) :
    exec (.evRx b) s = rxAscii b s := by
  simp only [exec, execEvRx, hp, hm]

theorem evRx_bridge {s : State} {b : Byte} (hp : s.phase = .wait) (hm : s.mode = .bridge) :
    exec (.evRx b) s = rxBridge b s := by
  simp only [exec, execEvRx, hp, hm]

end Sys2Proof.Machine
end

