-- ==== Sys2Proof/Laws/State.lean ====
section
/-! SUPPORT. What each update of the state does to each field: one lemma a field, all true by definition. -/

namespace Sys2Proof.Machine

/-! State.resp (00_scope R13). -/

@[simp] theorem State.resp_crc (s : State) (st : Nibble) (val : Word) : (s.resp st val).crc = s.crc := rfl
@[simp] theorem State.resp_sum (s : State) (st : Nibble) (val : Word) : (s.resp st val).sum = s.sum := rfl
@[simp] theorem State.resp_mode (s : State) (st : Nibble) (val : Word) : (s.resp st val).mode = s.mode := rfl
@[simp] theorem State.resp_phase (s : State) (st : Nibble) (val : Word) : (s.resp st val).phase = s.phase := rfl
@[simp] theorem State.resp_astate (s : State) (st : Nibble) (val : Word) : (s.resp st val).astate = s.astate := rfl
@[simp] theorem State.resp_link (s : State) (st : Nibble) (val : Word) : (s.resp st val).link = s.link := rfl
@[simp] theorem State.resp_txbuf (s : State) (st : Nibble) (val : Word) : (s.resp st val).txbuf = s.txbuf := rfl
@[simp] theorem State.resp_txid (s : State) (st : Nibble) (val : Word) : (s.resp st val).txid = s.txid := rfl
@[simp] theorem State.resp_rxw (s : State) (st : Nibble) (val : Word) : (s.resp st val).rxw = s.rxw := rfl
@[simp] theorem State.resp_nib (s : State) (st : Nibble) (val : Word) : (s.resp st val).nib = s.nib := rfl
@[simp] theorem State.resp_iter (s : State) (st : Nibble) (val : Word) : (s.resp st val).iter = s.iter := rfl
@[simp] theorem State.resp_rxbuf (s : State) (st : Nibble) (val : Word) : (s.resp st val).rxbuf = s.rxbuf := rfl
@[simp] theorem State.resp_rxptr (s : State) (st : Nibble) (val : Word) : (s.resp st val).rxptr = s.rxptr := rfl
@[simp] theorem State.resp_done (s : State) (st : Nibble) (val : Word) : (s.resp st val).done = s.done := rfl
@[simp] theorem State.resp_exc (s : State) (st : Nibble) (val : Word) : (s.resp st val).exc = s.exc := rfl
@[simp] theorem State.resp_err (s : State) (st : Nibble) (val : Word) : (s.resp st val).err = s.err := rfl
@[simp] theorem State.resp_lerr (s : State) (st : Nibble) (val : Word) : (s.resp st val).lerr = s.lerr := rfl
@[simp] theorem State.resp_msgcnt (s : State) (st : Nibble) (val : Word) : (s.resp st val).msgcnt = s.msgcnt := rfl
@[simp] theorem State.resp_tocnt (s : State) (st : Nibble) (val : Word) : (s.resp st val).tocnt = s.tocnt := rfl
@[simp] theorem State.resp_lineOut (s : State) (st : Nibble) (val : Word) : (s.resp st val).lineOut = s.lineOut := rfl
@[simp] theorem State.resp_answers (s : State) (st : Nibble) (val : Word) : (s.resp st val).answers = s.answers ++ [⟨st, val⟩] := rfl
@[simp] theorem State.resp_inputs (s : State) (st : Nibble) (val : Word) : (s.resp st val).inputs = s.inputs := rfl
@[simp] theorem State.resp_cfg (s : State) (st : Nibble) (val : Word) : (s.resp st val).cfg = s.cfg := rfl

/-! State.accept (30_encoding R78). -/

@[simp] theorem State.accept_crc (s : State) (val : Word) : (s.accept val).crc = s.crc := rfl
@[simp] theorem State.accept_sum (s : State) (val : Word) : (s.accept val).sum = s.sum := rfl
@[simp] theorem State.accept_mode (s : State) (val : Word) : (s.accept val).mode = s.mode := rfl
@[simp] theorem State.accept_phase (s : State) (val : Word) : (s.accept val).phase = s.phase := rfl
@[simp] theorem State.accept_astate (s : State) (val : Word) : (s.accept val).astate = s.astate := rfl
@[simp] theorem State.accept_link (s : State) (val : Word) : (s.accept val).link = s.link := rfl
@[simp] theorem State.accept_txbuf (s : State) (val : Word) : (s.accept val).txbuf = s.txbuf := rfl
@[simp] theorem State.accept_txid (s : State) (val : Word) : (s.accept val).txid = s.txid := rfl
@[simp] theorem State.accept_rxw (s : State) (val : Word) : (s.accept val).rxw = s.rxw := rfl
@[simp] theorem State.accept_nib (s : State) (val : Word) : (s.accept val).nib = s.nib := rfl
@[simp] theorem State.accept_iter (s : State) (val : Word) : (s.accept val).iter = s.iter := rfl
@[simp] theorem State.accept_rxbuf (s : State) (val : Word) : (s.accept val).rxbuf = s.rxbuf := rfl
@[simp] theorem State.accept_rxptr (s : State) (val : Word) : (s.accept val).rxptr = s.rxptr := rfl
@[simp] theorem State.accept_done (s : State) (val : Word) : (s.accept val).done = s.done := rfl
@[simp] theorem State.accept_exc (s : State) (val : Word) : (s.accept val).exc = s.exc := rfl
@[simp] theorem State.accept_err (s : State) (val : Word) : (s.accept val).err = s.err := rfl
@[simp] theorem State.accept_lerr (s : State) (val : Word) : (s.accept val).lerr = s.lerr := rfl
@[simp] theorem State.accept_msgcnt (s : State) (val : Word) : (s.accept val).msgcnt = s.msgcnt := rfl
@[simp] theorem State.accept_tocnt (s : State) (val : Word) : (s.accept val).tocnt = s.tocnt := rfl
@[simp] theorem State.accept_lineOut (s : State) (val : Word) : (s.accept val).lineOut = s.lineOut := rfl
@[simp] theorem State.accept_answers (s : State) (val : Word) : (s.accept val).answers = s.answers ++ [⟨0#4, val⟩] := rfl
@[simp] theorem State.accept_inputs (s : State) (val : Word) : (s.accept val).inputs = s.inputs := rfl
@[simp] theorem State.accept_cfg (s : State) (val : Word) : (s.accept val).cfg = s.cfg := rfl

/-! State.reject (60_exceptions R235). -/

@[simp] theorem State.reject_crc (s : State) (kind : ErrorKind) : (s.reject kind).crc = s.crc := rfl
@[simp] theorem State.reject_sum (s : State) (kind : ErrorKind) : (s.reject kind).sum = s.sum := rfl
@[simp] theorem State.reject_mode (s : State) (kind : ErrorKind) : (s.reject kind).mode = s.mode := rfl
@[simp] theorem State.reject_phase (s : State) (kind : ErrorKind) : (s.reject kind).phase = s.phase := rfl
@[simp] theorem State.reject_astate (s : State) (kind : ErrorKind) : (s.reject kind).astate = s.astate := rfl
@[simp] theorem State.reject_link (s : State) (kind : ErrorKind) : (s.reject kind).link = s.link := rfl
@[simp] theorem State.reject_txbuf (s : State) (kind : ErrorKind) : (s.reject kind).txbuf = s.txbuf := rfl
@[simp] theorem State.reject_txid (s : State) (kind : ErrorKind) : (s.reject kind).txid = s.txid := rfl
@[simp] theorem State.reject_rxw (s : State) (kind : ErrorKind) : (s.reject kind).rxw = s.rxw := rfl
@[simp] theorem State.reject_nib (s : State) (kind : ErrorKind) : (s.reject kind).nib = s.nib := rfl
@[simp] theorem State.reject_iter (s : State) (kind : ErrorKind) : (s.reject kind).iter = s.iter := rfl
@[simp] theorem State.reject_rxbuf (s : State) (kind : ErrorKind) : (s.reject kind).rxbuf = s.rxbuf := rfl
@[simp] theorem State.reject_rxptr (s : State) (kind : ErrorKind) : (s.reject kind).rxptr = s.rxptr := rfl
@[simp] theorem State.reject_done (s : State) (kind : ErrorKind) : (s.reject kind).done = s.done := rfl
@[simp] theorem State.reject_exc (s : State) (kind : ErrorKind) : (s.reject kind).exc = s.exc := rfl
@[simp] theorem State.reject_err (s : State) (kind : ErrorKind) : (s.reject kind).err = s.err := rfl
@[simp] theorem State.reject_lerr (s : State) (kind : ErrorKind) : (s.reject kind).lerr = s.lerr := rfl
@[simp] theorem State.reject_msgcnt (s : State) (kind : ErrorKind) : (s.reject kind).msgcnt = s.msgcnt := rfl
@[simp] theorem State.reject_tocnt (s : State) (kind : ErrorKind) : (s.reject kind).tocnt = s.tocnt := rfl
@[simp] theorem State.reject_lineOut (s : State) (kind : ErrorKind) : (s.reject kind).lineOut = s.lineOut := rfl
@[simp] theorem State.reject_answers (s : State) (kind : ErrorKind) : (s.reject kind).answers = s.answers ++ [⟨kind.code, 0#16⟩] := rfl
@[simp] theorem State.reject_inputs (s : State) (kind : ErrorKind) : (s.reject kind).inputs = s.inputs := rfl
@[simp] theorem State.reject_cfg (s : State) (kind : ErrorKind) : (s.reject kind).cfg = s.cfg := rfl

/-! State.emit (20_memory R53). -/

@[simp] theorem State.emit_crc (s : State) (bytes : List Byte) : (s.emit bytes).crc = s.crc := rfl
@[simp] theorem State.emit_sum (s : State) (bytes : List Byte) : (s.emit bytes).sum = s.sum := rfl
@[simp] theorem State.emit_mode (s : State) (bytes : List Byte) : (s.emit bytes).mode = s.mode := rfl
@[simp] theorem State.emit_phase (s : State) (bytes : List Byte) : (s.emit bytes).phase = s.phase := rfl
@[simp] theorem State.emit_astate (s : State) (bytes : List Byte) : (s.emit bytes).astate = s.astate := rfl
@[simp] theorem State.emit_link (s : State) (bytes : List Byte) : (s.emit bytes).link = s.link := rfl
@[simp] theorem State.emit_txbuf (s : State) (bytes : List Byte) : (s.emit bytes).txbuf = s.txbuf := rfl
@[simp] theorem State.emit_txid (s : State) (bytes : List Byte) : (s.emit bytes).txid = s.txid := rfl
@[simp] theorem State.emit_rxw (s : State) (bytes : List Byte) : (s.emit bytes).rxw = s.rxw := rfl
@[simp] theorem State.emit_nib (s : State) (bytes : List Byte) : (s.emit bytes).nib = s.nib := rfl
@[simp] theorem State.emit_iter (s : State) (bytes : List Byte) : (s.emit bytes).iter = s.iter := rfl
@[simp] theorem State.emit_rxbuf (s : State) (bytes : List Byte) : (s.emit bytes).rxbuf = s.rxbuf := rfl
@[simp] theorem State.emit_rxptr (s : State) (bytes : List Byte) : (s.emit bytes).rxptr = s.rxptr := rfl
@[simp] theorem State.emit_done (s : State) (bytes : List Byte) : (s.emit bytes).done = s.done := rfl
@[simp] theorem State.emit_exc (s : State) (bytes : List Byte) : (s.emit bytes).exc = s.exc := rfl
@[simp] theorem State.emit_err (s : State) (bytes : List Byte) : (s.emit bytes).err = s.err := rfl
@[simp] theorem State.emit_lerr (s : State) (bytes : List Byte) : (s.emit bytes).lerr = s.lerr := rfl
@[simp] theorem State.emit_msgcnt (s : State) (bytes : List Byte) : (s.emit bytes).msgcnt = s.msgcnt := rfl
@[simp] theorem State.emit_tocnt (s : State) (bytes : List Byte) : (s.emit bytes).tocnt = s.tocnt := rfl
@[simp] theorem State.emit_lineOut (s : State) (bytes : List Byte) : (s.emit bytes).lineOut = s.lineOut ++ bytes := rfl
@[simp] theorem State.emit_answers (s : State) (bytes : List Byte) : (s.emit bytes).answers = s.answers := rfl
@[simp] theorem State.emit_inputs (s : State) (bytes : List Byte) : (s.emit bytes).inputs = s.inputs := rfl
@[simp] theorem State.emit_cfg (s : State) (bytes : List Byte) : (s.emit bytes).cfg = s.cfg := rfl

/-! State.fail (60_exceptions R236). -/

@[simp] theorem State.fail_crc (s : State) (kind : ErrorKind) : (s.fail kind).crc = s.crc := rfl
@[simp] theorem State.fail_sum (s : State) (kind : ErrorKind) : (s.fail kind).sum = s.sum := rfl
@[simp] theorem State.fail_mode (s : State) (kind : ErrorKind) : (s.fail kind).mode = s.mode := rfl
@[simp] theorem State.fail_phase (s : State) (kind : ErrorKind) : (s.fail kind).phase = .idle := rfl
@[simp] theorem State.fail_astate (s : State) (kind : ErrorKind) : (s.fail kind).astate = .hunt := rfl
@[simp] theorem State.fail_link (s : State) (kind : ErrorKind) : (s.fail kind).link = s.link := rfl
@[simp] theorem State.fail_txbuf (s : State) (kind : ErrorKind) : (s.fail kind).txbuf = s.txbuf := rfl
@[simp] theorem State.fail_txid (s : State) (kind : ErrorKind) : (s.fail kind).txid = s.txid := rfl
@[simp] theorem State.fail_rxw (s : State) (kind : ErrorKind) : (s.fail kind).rxw = [] := rfl
@[simp] theorem State.fail_nib (s : State) (kind : ErrorKind) : (s.fail kind).nib = none := rfl
@[simp] theorem State.fail_iter (s : State) (kind : ErrorKind) : (s.fail kind).iter = 0 := rfl
@[simp] theorem State.fail_rxbuf (s : State) (kind : ErrorKind) : (s.fail kind).rxbuf = [] := rfl
@[simp] theorem State.fail_rxptr (s : State) (kind : ErrorKind) : (s.fail kind).rxptr = 0 := rfl
@[simp] theorem State.fail_done (s : State) (kind : ErrorKind) : (s.fail kind).done = false := rfl
@[simp] theorem State.fail_exc (s : State) (kind : ErrorKind) : (s.fail kind).exc = s.exc := rfl
@[simp] theorem State.fail_err (s : State) (kind : ErrorKind) : (s.fail kind).err = kind.code := rfl
@[simp] theorem State.fail_lerr (s : State) (kind : ErrorKind) : (s.fail kind).lerr = s.lerr := rfl
@[simp] theorem State.fail_msgcnt (s : State) (kind : ErrorKind) : (s.fail kind).msgcnt = s.msgcnt := rfl
@[simp] theorem State.fail_tocnt (s : State) (kind : ErrorKind) : (s.fail kind).tocnt = s.tocnt := rfl
@[simp] theorem State.fail_lineOut (s : State) (kind : ErrorKind) : (s.fail kind).lineOut = s.lineOut := rfl
@[simp] theorem State.fail_answers (s : State) (kind : ErrorKind) : (s.fail kind).answers = s.answers := rfl
@[simp] theorem State.fail_inputs (s : State) (kind : ErrorKind) : (s.fail kind).inputs = s.inputs := rfl
@[simp] theorem State.fail_cfg (s : State) (kind : ErrorKind) : (s.fail kind).cfg = s.cfg := rfl

/-! State.deliver (44_framer_rx R195). -/

@[simp] theorem State.deliver_crc (s : State) (m : List Byte) (exception : Bool) : (s.deliver m exception).crc = s.crc := rfl
@[simp] theorem State.deliver_sum (s : State) (m : List Byte) (exception : Bool) : (s.deliver m exception).sum = s.sum := rfl
@[simp] theorem State.deliver_mode (s : State) (m : List Byte) (exception : Bool) : (s.deliver m exception).mode = s.mode := rfl
@[simp] theorem State.deliver_phase (s : State) (m : List Byte) (exception : Bool) : (s.deliver m exception).phase = .idle := rfl
@[simp] theorem State.deliver_astate (s : State) (m : List Byte) (exception : Bool) : (s.deliver m exception).astate = .hunt := rfl
@[simp] theorem State.deliver_link (s : State) (m : List Byte) (exception : Bool) : (s.deliver m exception).link = s.link := rfl
@[simp] theorem State.deliver_txbuf (s : State) (m : List Byte) (exception : Bool) : (s.deliver m exception).txbuf = s.txbuf := rfl
@[simp] theorem State.deliver_txid (s : State) (m : List Byte) (exception : Bool) : (s.deliver m exception).txid = s.txid := rfl
@[simp] theorem State.deliver_rxw (s : State) (m : List Byte) (exception : Bool) : (s.deliver m exception).rxw = [] := rfl
@[simp] theorem State.deliver_nib (s : State) (m : List Byte) (exception : Bool) : (s.deliver m exception).nib = none := rfl
@[simp] theorem State.deliver_iter (s : State) (m : List Byte) (exception : Bool) : (s.deliver m exception).iter = 0 := rfl
@[simp] theorem State.deliver_rxbuf (s : State) (m : List Byte) (exception : Bool) : (s.deliver m exception).rxbuf = m := rfl
@[simp] theorem State.deliver_rxptr (s : State) (m : List Byte) (exception : Bool) : (s.deliver m exception).rxptr = 0 := rfl
@[simp] theorem State.deliver_done (s : State) (m : List Byte) (exception : Bool) : (s.deliver m exception).done = true := rfl
@[simp] theorem State.deliver_exc (s : State) (m : List Byte) (exception : Bool) : (s.deliver m exception).exc = exception := rfl
@[simp] theorem State.deliver_err (s : State) (m : List Byte) (exception : Bool) : (s.deliver m exception).err = 0#4 := rfl
@[simp] theorem State.deliver_lerr (s : State) (m : List Byte) (exception : Bool) : (s.deliver m exception).lerr = s.lerr := rfl
@[simp] theorem State.deliver_msgcnt (s : State) (m : List Byte) (exception : Bool) : (s.deliver m exception).msgcnt = s.msgcnt := rfl
@[simp] theorem State.deliver_tocnt (s : State) (m : List Byte) (exception : Bool) : (s.deliver m exception).tocnt = s.tocnt := rfl
@[simp] theorem State.deliver_lineOut (s : State) (m : List Byte) (exception : Bool) : (s.deliver m exception).lineOut = s.lineOut := rfl
@[simp] theorem State.deliver_answers (s : State) (m : List Byte) (exception : Bool) : (s.deliver m exception).answers = s.answers := rfl
@[simp] theorem State.deliver_inputs (s : State) (m : List Byte) (exception : Bool) : (s.deliver m exception).inputs = s.inputs := rfl
@[simp] theorem State.deliver_cfg (s : State) (m : List Byte) (exception : Bool) : (s.deliver m exception).cfg = s.cfg := rfl

/-! State.startTransaction (43_framer_tx R146). -/

@[simp] theorem State.startTransaction_crc (s : State) : (s.startTransaction).crc = s.crc := rfl
@[simp] theorem State.startTransaction_sum (s : State) : (s.startTransaction).sum = s.sum := rfl
@[simp] theorem State.startTransaction_mode (s : State) : (s.startTransaction).mode = s.mode := rfl
@[simp] theorem State.startTransaction_phase (s : State) : (s.startTransaction).phase = .wait := rfl
@[simp] theorem State.startTransaction_astate (s : State) : (s.startTransaction).astate = .hunt := rfl
@[simp] theorem State.startTransaction_link (s : State) : (s.startTransaction).link = s.link := rfl
@[simp] theorem State.startTransaction_txbuf (s : State) : (s.startTransaction).txbuf = s.txbuf := rfl
@[simp] theorem State.startTransaction_txid (s : State) : (s.startTransaction).txid = nextTxid s := rfl
@[simp] theorem State.startTransaction_rxw (s : State) : (s.startTransaction).rxw = [] := rfl
@[simp] theorem State.startTransaction_nib (s : State) : (s.startTransaction).nib = none := rfl
@[simp] theorem State.startTransaction_iter (s : State) : (s.startTransaction).iter = 0 := rfl
@[simp] theorem State.startTransaction_rxbuf (s : State) : (s.startTransaction).rxbuf = [] := rfl
@[simp] theorem State.startTransaction_rxptr (s : State) : (s.startTransaction).rxptr = 0 := rfl
@[simp] theorem State.startTransaction_done (s : State) : (s.startTransaction).done = false := rfl
@[simp] theorem State.startTransaction_exc (s : State) : (s.startTransaction).exc = false := rfl
@[simp] theorem State.startTransaction_err (s : State) : (s.startTransaction).err = 0#4 := rfl
@[simp] theorem State.startTransaction_lerr (s : State) : (s.startTransaction).lerr = s.lerr := rfl
@[simp] theorem State.startTransaction_msgcnt (s : State) : (s.startTransaction).msgcnt = s.msgcnt + 1#16 := rfl
@[simp] theorem State.startTransaction_tocnt (s : State) : (s.startTransaction).tocnt = s.tocnt := rfl
@[simp] theorem State.startTransaction_lineOut (s : State) : (s.startTransaction).lineOut = s.lineOut := rfl
@[simp] theorem State.startTransaction_answers (s : State) : (s.startTransaction).answers = s.answers := rfl
@[simp] theorem State.startTransaction_inputs (s : State) : (s.startTransaction).inputs = s.inputs := rfl
@[simp] theorem State.startTransaction_cfg (s : State) : (s.startTransaction).cfg = s.cfg := rfl

/-! State.applyReset (10_state R39). -/

@[simp] theorem State.applyReset_crc (s : State) : (s.applyReset).crc = 0xFFFF#16 := rfl
@[simp] theorem State.applyReset_sum (s : State) : (s.applyReset).sum = 0#8 := rfl
@[simp] theorem State.applyReset_mode (s : State) : (s.applyReset).mode = .rtu := rfl
@[simp] theorem State.applyReset_phase (s : State) : (s.applyReset).phase = .idle := rfl
@[simp] theorem State.applyReset_astate (s : State) : (s.applyReset).astate = .hunt := rfl
@[simp] theorem State.applyReset_link (s : State) : (s.applyReset).link = .disconnected := rfl
@[simp] theorem State.applyReset_txbuf (s : State) : (s.applyReset).txbuf = [] := rfl
@[simp] theorem State.applyReset_txid (s : State) : (s.applyReset).txid = 0#16 := rfl
@[simp] theorem State.applyReset_rxw (s : State) : (s.applyReset).rxw = [] := rfl
@[simp] theorem State.applyReset_nib (s : State) : (s.applyReset).nib = none := rfl
@[simp] theorem State.applyReset_iter (s : State) : (s.applyReset).iter = 0 := rfl
@[simp] theorem State.applyReset_rxbuf (s : State) : (s.applyReset).rxbuf = [] := rfl
@[simp] theorem State.applyReset_rxptr (s : State) : (s.applyReset).rxptr = 0 := rfl
@[simp] theorem State.applyReset_done (s : State) : (s.applyReset).done = false := rfl
@[simp] theorem State.applyReset_exc (s : State) : (s.applyReset).exc = false := rfl
@[simp] theorem State.applyReset_err (s : State) : (s.applyReset).err = 0#4 := rfl
@[simp] theorem State.applyReset_lerr (s : State) : (s.applyReset).lerr = 0#4 := rfl
@[simp] theorem State.applyReset_msgcnt (s : State) : (s.applyReset).msgcnt = 0#16 := rfl
@[simp] theorem State.applyReset_tocnt (s : State) : (s.applyReset).tocnt = 0#16 := rfl
@[simp] theorem State.applyReset_lineOut (s : State) : (s.applyReset).lineOut = [] := rfl
@[simp] theorem State.applyReset_answers (s : State) : (s.applyReset).answers = s.answers := rfl
@[simp] theorem State.applyReset_inputs (s : State) : (s.applyReset).inputs = s.inputs := rfl
@[simp] theorem State.applyReset_cfg (s : State) : (s.applyReset).cfg = s.cfg := rfl

end Sys2Proof.Machine
end

