-- ==== Sys2Proof/Laws/Step.lean ====
section
/-! SUPPORT. The step: it takes the first input and runs it (20_memory R58, R59). -/

namespace Sys2Proof.Machine

theorem takeInput_cons {s : State} {i : Input} {rest : List Input} (h : s.inputs = i :: rest) :
    takeInput s = some (i, { s with inputs := rest }) := by
  simp only [takeInput, h]

theorem takeInput_eq_some {s s' : State} {i : Input} (h : takeInput s = some (i, s')) :
    s.inputs = i :: s'.inputs ∧ s' = { s with inputs := s.inputs.tail } := by
  unfold takeInput at h
  split at h <;> cases h
  simp [*]

/-- A step with an input waiting, be it a word or reset. -/
theorem step_cons {s : State} {i : Input} {rest : List Input} (h : s.inputs = i :: rest) :
    step s = runInput i { s with inputs := rest } := by
  simp only [step, takeInput_cons h]

end Sys2Proof.Machine
end

