-- ==== Sys2Proof/Laws/Transmit.lean ====
section
/-! SUPPORT. The transmit side: everything FR.XACT can do (43_framer_tx R145, R146). -/

namespace Sys2Proof.Machine

/-- FR.XACT either starts a transaction or is rejected (43_framer_tx R145). -/
theorem execFrXact_next {s t : State} (h : execFrXact s = .next t) :
    (startsTransaction .frXact s ∧
      t = (s.startTransaction.emit (xactFrame s)).accept (BitVec.ofNat 16 (xactFrame s).length)) ∨
    (¬ startsTransaction .frXact s ∧ ∃ kind : ErrorKind, t = s.reject kind) := by
  unfold execFrXact at h
  simp only [startsTransaction, true_and]
  split at h
  · cases h; exact .inr ⟨by simp_all [busy_eq_true_iff], _, rfl⟩
  · split at h
    · cases h; exact .inr ⟨by simp_all, _, rfl⟩
    · split at h
      · cases h; refine .inr ⟨by omega, _, rfl⟩
      · cases h; left; refine ⟨⟨?_, by simp_all, by omega⟩, rfl⟩
        simp_all [busy_eq_false_iff]

end Sys2Proof.Machine
end

