-- ==== Sys2Proof/Tests/Slice0.lean ====
section
/-! SUPPORT. The model's own tests. Part 1: WellFormed refuses ill-formed terms. Part 2: words written out from the
encoding tables of 30_encoding R72 and R76. Part 3: one step each, with the results 95_test_vectors gives. Part 4: for
every statement with hypotheses, states and operands that meet them. -/

namespace Sys2Proof.Tests

open Sys2Proof.Machine

/-! ## Helpers -/

/-- What a result's next state holds; none for a stop. -/
def see {α : Type} (f : State → α) : Result → Option α
  | .next s => some (f s)
  | .fault _ => none
  | .refused _ => none

/-- What an instruction answers. -/
def answered (i : Instr) (s : State) : Option (List Answer) := see State.answers (exec i s)

/-- Reset with the configuration of 95_test_vectors: RESYNC_CAP = 4 and DEFAULT_SHAPE. -/
def base : State := { State.reset with cfg := ⟨4, defaultShape⟩ }

/-- Connected, with a read command of unit 1 in TXBUF. -/
def ready (mode : Mode) : State := { base with mode := mode, link := .connected, txbuf := [0x01#8, 0x03#8] }

/-- The same with its transaction in flight. -/
def waiting (mode : Mode) : State := { ready mode with phase := .wait }

/-- A state with inputs waiting. -/
def given (s : State) (is : List Input) : State := { s with inputs := is }

/-! ## Part 1: well-formed -/

theorem test_linkfail_kinds_outside_the_set_are_ill_formed :
    [0#4, 1#4, 3#4, 7#4, 9#4, 13#4, 15#4].all (fun k => !(Instr.evLinkfail k).wellFormed) = true := by decide

theorem test_linkfail_kinds_in_the_set_are_well_formed :
    [2#4, 8#4, 10#4, 11#4, 12#4].all (fun k => (Instr.evLinkfail k).wellFormed) = true := by decide

theorem test_mode_three_is_well_formed : (Instr.frMode 3#2).wellFormed = true := by decide

/-! ## Part 2: decoding -/

theorem test_decode_crc :
    decodeTableWord 16 0b0001000000000000 = some .crcInit ∧ decodeTableWord 16 0b0001000110100101 = some (.crcUpd 0xA5#8) ∧
    decodeTableWord 16 0b0001001000000000 = some .crcRd ∧ decodeTableWord 16 0b0001001100000000 = some .crcChk := by decide

theorem test_decode_lrc :
    decodeTableWord 16 0b0010000000000000 = some .lrcInit ∧ decodeTableWord 16 0b0010000110100101 = some (.lrcUpd 0xA5#8) ∧
    decodeTableWord 16 0b0010001000000000 = some .lrcRd ∧ decodeTableWord 16 0b0010001100000000 = some .lrcChk := by decide

theorem test_decode_hex :
    decodeTableWord 16 0b0011000001101011 = some (.hexEnc 0x6B#8) ∧
    decodeTableWord 16 0b0011000101000010 = some (.hexDec 0x42#8) := by decide

theorem test_decode_framer_transmit :
    decodeTableWord 16 0b0100000000000010 = some (.frMode 2#2) ∧ decodeTableWord 16 0b0100001100000000 = some .frTxclr ∧
    decodeTableWord 16 0b0100010011111110 = some (.frTxpush 0xFE#8) ∧
    decodeTableWord 16 0b0100010100000000 = some .frXact := by decide

theorem test_decode_framer_read_back :
    decodeTableWord 16 0b0100011000000000 = some .frStat ∧ decodeTableWord 16 0b0100011100000000 = some .frRxlen ∧
    decodeTableWord 16 0b0100100000000000 = some .frRxpop ∧ decodeTableWord 16 0b0100100100000000 = some (.frCnt .messages) ∧
    decodeTableWord 16 0b0100100100000001 = some (.frCnt .timeouts) := by decide

theorem test_decode_link :
    decodeTableWord 16 0b0100000100000000 = some .frConnect ∧ decodeTableWord 16 0b0100001000000000 = some .frDisconnect := by
  decide

theorem test_decode_events :
    decodeTableWord 12 0b000100111010 = some (.evRx 0x3A#8) ∧ decodeTableWord 12 0b001000000000 = some .evTimeout ∧
    decodeTableWord 12 0b001100000000 = some .evIofail ∧ decodeTableWord 12 0b010000000000 = some .evLinkok ∧
    decodeTableWord 12 0b010100001010 = some (.evLinkfail 10#4) := by decide

/-- The host counts an event row as 16 bits; the word is the same event (log 9). -/
theorem test_decode_events_in_whole_bytes :
    decodeTableWord 16 0x13A = some (.evRx 0x3A#8) ∧ decodeTableWord 16 0x50C = some (.evLinkfail 12#4) := by decide

/-- 95_test_vectors V30: illegal command words, with the reason's name. -/
theorem test_decode_illegal_commands :
    [0x0000#16, 0x00FF#16, 0x0F00#16, 0x1001#16, 0x12FF#16, 0x1301#16, 0x1400#16, 0x2001#16, 0x2201#16].all
      (fun cw => !accepted (.command cw)) = true ∧
    decode (.command 0x4004#16) = .error (.reservedModeBits 0x04#8) ∧
    decode (.command 0x4902#16) = .error (.reservedCounterBits 0x02#8) ∧
    decode (.command 0x1001#16) = .error (.operandNotZero 0x10#8 0x01#8) := by decide

theorem test_decode_reserved_events :
    decode (.event 0x000#12) = .error (.reservedEventKind 0#4) ∧ decode (.event 0x6FF#12) = .error (.reservedEventKind 6#4) ∧
    decode (.event 0x201#12) = .error (.eventDataNotZero 2#4 1#8) ∧
    decode (.event 0x501#12) = .error (.reservedLinkfailKind 0x01#8) ∧
    decode (.event 0x512#12) = .error (.reservedLinkfailKind 0x12#8) := by decide

/-- A presented table word is the next step's instruction, here CRC.RD right after reset. -/
theorem test_step_runs_the_presented_word :
    see State.answers (step (State.reset.withFetchWord 16 0x1200)) = some [⟨0#4, 0xFFFF#16⟩] := by decide

/-! ## Part 3: vectors -/

/-- 95_test_vectors V1 and V5. -/
theorem test_crc_upd : see State.crc (exec (.crcUpd 0x01#8) base) = some 0x807E#16 := by decide

theorem test_crc_upd_bit_by_bit : crc16Step 0x1234#16 0x56#8 = 0xE993#16 := by decide

theorem test_crc_init : see State.crc (exec .crcInit { base with crc := 0x0A84#16 }) = some 0xFFFF#16 := by decide

theorem test_crc_rd : answered .crcRd { base with crc := 0x2140#16 } = some [⟨0#4, 0x2140#16⟩] := by decide

theorem test_crc_chk : answered .crcChk { base with crc := 0#16 } = some [⟨0#4, 1#16⟩] := by decide

/-- 95_test_vectors V4. -/
theorem test_crc_ok : crcOk [0x00#8, 0xBF#8, 0x40#8] = true ∧ crcOk [0x00#8, 0x40#8, 0xBF#8] = false ∧ crcOk [] = false := by
  decide

/-- 95_test_vectors V12. -/
theorem test_lrc_upd_wraps : see State.sum (exec (.lrcUpd 0x80#8) { base with sum := 0x80#8 }) = some 0x00#8 := by decide

theorem test_lrc_init : see State.sum (exec .lrcInit { base with sum := 5#8 }) = some 0#8 := by decide

theorem test_lrc_rd :
    answered .lrcRd { base with sum := 0x05#8 } = some [⟨0#4, 0x00FB#16⟩] ∧
    answered .lrcRd base = some [⟨0#4, 0#16⟩] := by decide

theorem test_lrc_chk : answered .lrcChk { base with sum := 1#8 } = some [⟨0#4, 0#16⟩] := by decide

/-- 95_test_vectors V11. -/
theorem test_lrc_ok : lrcOk [0x80#8, 0x80#8, 0x00#8] = true ∧ lrcOk [0x01#8] = false ∧ lrcOk [] = false := by decide

/-- 95_test_vectors V20. -/
theorem test_hex_enc :
    answered (.hexEnc 0x6B#8) base = some [⟨0#4, 0x3642#16⟩] ∧
    answered (.hexEnc 0x9A#8) base = some [⟨0#4, 0x3941#16⟩] := by decide

/-- 95_test_vectors V21. -/
theorem test_hex_dec :
    answered (.hexDec 0x42#8) base = some [⟨0#4, 0x000B#16⟩] ∧ answered (.hexDec 0x61#8) base = some [⟨6#4, 0#16⟩] := by
  decide

theorem test_fr_mode :
    see State.mode (exec (.frMode 2#2) base) = some .bridge ∧ answered (.frMode 3#2) base = some [⟨9#4, 0#16⟩] ∧
    answered (.frMode 3#2) (waiting .rtu) = some [⟨13#4, 0#16⟩] := by decide

theorem test_fr_txclr : see State.txbuf (exec .frTxclr (ready .rtu)) = some [] := by decide

theorem test_fr_txpush :
    answered (.frTxpush 0xFF#8) (ready .rtu) = some [⟨0#4, 3#16⟩] ∧
    see State.txbuf (exec (.frTxpush 0xFF#8) (ready .rtu)) = some [0x01#8, 0x03#8, 0xFF#8] := by decide

/-- The frame of 95_test_vectors S3, its first 8 bytes the source's own. -/
theorem test_fr_xact_bridge :
    see State.lineOut (exec .frXact { ready .bridge with txbuf := [0x05#8, 0x03#8, 0x00#8, 0x00#8, 0x00#8, 0x01#8] }) =
      some [0x00#8, 0x01#8, 0x00#8, 0x00#8, 0x00#8, 0x06#8, 0x05#8, 0x03#8, 0x00#8, 0x00#8, 0x00#8, 0x01#8] := by decide

/-- 95_test_vectors V3: the CRC of 05 07 goes out low byte first. -/
theorem test_fr_xact_rtu :
    see State.lineOut (exec .frXact { ready .rtu with txbuf := [0x05#8, 0x07#8] }) =
      some [0x05#8, 0x07#8, 0x43#8, 0x22#8] := by decide +kernel

/-- 95_test_vectors V10: lrc(05 07) = F4, in the text `:0507F4` with CR LF. -/
theorem test_frame_ascii :
    encAscii [0x05#8, 0x07#8] = [0x3A#8, 0x30#8, 0x35#8, 0x30#8, 0x37#8, 0x46#8, 0x34#8, 0x0D#8, 0x0A#8] := by decide

/-- 10_state R34: BUSY, LINK = 2 in bits 5:4, MODE = 1 in bits 7:6. -/
theorem test_fr_stat :
    answered .frStat (waiting .ascii) = some [⟨0#4, 0b0000000001100001#16⟩] ∧
    answered .frStat { base with lerr := 12#4, err := 3#4 } = some [⟨0#4, 0b1100001100000000#16⟩] := by decide

theorem test_fr_rxlen :
    answered .frRxlen { base with rxbuf := [1#8, 2#8, 3#8], rxptr := 2 } = some [⟨0#4, 3#16⟩] := by decide

theorem test_fr_rxpop :
    answered .frRxpop { base with rxbuf := [1#8, 0xFE#8], rxptr := 1 } = some [⟨0#4, 0x00FE#16⟩] ∧
    answered .frRxpop { base with rxbuf := [1#8, 0xFE#8], rxptr := 2 } = some [⟨7#4, 0#16⟩] := by decide

theorem test_fr_cnt :
    answered (.frCnt .timeouts) { base with msgcnt := 5#16, tocnt := 2#16 } = some [⟨0#4, 2#16⟩] := by decide

theorem test_fr_connect :
    see State.link (exec .frConnect base) = some .connecting ∧
    see State.lerr (exec .frConnect { base with lerr := 8#4 }) = some 0#4 := by decide

theorem test_fr_disconnect :
    see State.link (exec .frDisconnect (waiting .rtu)) = some .disconnected ∧
    see State.err (exec .frDisconnect (waiting .rtu)) = some 4#4 := by decide

/-- The last byte of the RTU response 01 83 02 C0 F1 (95_test_vectors V3): delivered, EXC set. -/
theorem test_ev_rx_rtu :
    see State.rxbuf (exec (.evRx 0xF1#8) { waiting .rtu with rxw := [0x01#8, 0x83#8, 0x02#8, 0xC0#8] }) =
      some [0x01#8, 0x83#8, 0x02#8] ∧
    see State.exc (exec (.evRx 0xF1#8) { waiting .rtu with rxw := [0x01#8, 0x83#8, 0x02#8, 0xC0#8] }) = some true := by decide +kernel

/-- 44_framer_rx R176, R178: 55 44 is a candidate of unknown length, dropped at 5 bytes; 44 83 has length 3 and waits for 5. -/
theorem test_ev_rx_rtu_resynchronises :
    see State.iter (exec (.evRx 0xC0#8) { waiting .rtu with rxw := [0x55#8, 0x44#8, 0x83#8, 0x02#8] }) = some 1 ∧
    see State.rxw (exec (.evRx 0xC0#8) { waiting .rtu with rxw := [0x55#8, 0x44#8, 0x83#8, 0x02#8] }) =
      some [0x44#8, 0x83#8, 0x02#8, 0xC0#8] := by decide

theorem test_ev_timeout :
    see State.tocnt (exec .evTimeout (waiting .rtu)) = some 1#16 ∧ see State.err (exec .evTimeout (waiting .rtu)) = some 3#4 := by
  decide

theorem test_ev_iofail :
    see State.err (exec .evIofail (waiting .rtu)) = some 2#4 ∧
    see State.link (exec .evIofail (waiting .rtu)) = some .disconnected := by decide

theorem test_ev_linkok :
    see State.link (exec .evLinkok { base with link := .connecting }) = some .connected ∧
    see State.link (exec .evLinkok base) = some .disconnected := by decide

theorem test_ev_linkfail :
    see State.lerr (exec (.evLinkfail 10#4) { base with link := .connecting }) = some 10#4 ∧
    see State.link (exec (.evLinkfail 10#4) { base with link := .connecting }) = some .disconnected := by decide

/-! ## Part 4: the statements' hypotheses are met -/

/-- FIXED(3) response 01 07 00 with its LRC, the window at LF. -/
def asciiDone : State := { waiting .ascii with astate := .cr, rxw := [0x01#8, 0x07#8, 0x00#8, 0xF8#8] }

/-- The header and six bytes of a bridge response to 01 03. -/
def bridgeWindow (rest : List Byte) : State :=
  { waiting .bridge with rxw := [0#8, 1#8, 0#8, 0#8, 0#8, 5#8] ++ rest }

theorem test_witness_DecodeOfEncodeIsTheInstruction :
    (Instr.evLinkfail 2#4).wellFormed = true ∧ (Instr.evLinkfail 12#4).wellFormed = true := by decide

theorem test_witness_EncodeOfDecodeIsTheWord :
    decode (.command 0x4003#16) = .ok (.frMode 3#2) ∧ decode (.event 0x50C#12) = .ok (.evLinkfail 12#4) := by decide

/-- 0x4003 and 0x4004 stand on the two sides of FR.MODE's row. -/
theorem test_witness_IllegalCommandWordsAreAnsweredAndChangeNothing :
    (given base [.word (.command 0x4004#16)]).inputs = .word (.command 0x4004#16) :: [] ∧
    (∀ row ∈ commandTable, 0x4004#16 &&& row.1 ≠ row.2) ∧ (∃ row ∈ commandTable, 0x4003#16 &&& row.1 = row.2) :=
  ⟨rfl, by simp [commandTable], (0xFFFC#16, 0x4000#16), by simp [commandTable], by decide⟩

theorem test_witness_ReservedEventWordsAreRefused :
    (given base [.word (.event (6#4 ++ 0#8))]).inputs = .word (.event (6#4 ++ 0#8)) :: [] ∧
    (given base [.word (.event (5#4 ++ 12#8))]).inputs = .word (.event (5#4 ++ 12#8)) :: [] ∧
    6 ≤ (6#4).toNat ∧ (0#4).toNat = 0 ∧ ((4#4).toNat ∈ [2, 3, 4] ∧ 1#8 ≠ 0#8) ∧
    ((5#4).toNat = 5 ∧ (13#8).toNat ∉ [2, 8, 10, 11, 12]) ∧ (12#8).toNat ∈ [2, 8, 10, 11, 12] := by decide

theorem test_witness_StepRunsTheDecodedInstruction :
    (given base [.word (.command 0x1101#16)]).inputs = .word (.command 0x1101#16) :: [] ∧
    decode (.command 0x1101#16) = .ok (.crcUpd 1#8) := by decide

theorem test_witness_ModelsOwnRecordsOnAStep : base.inputs = [] ∧ (given base [.reset]).inputs = .reset :: [] := by decide

theorem test_witness_StepTakesOneInputAndKeepsTheConfiguration :
    ∃ t, step (given base [.word (.command 0x1200#16), .reset]) = .next t := ⟨_, rfl⟩

theorem test_witness_ResetPutsEveryRegisterAtItsResetValue :
    (given (waiting .ascii) [.reset]).inputs = .reset :: [] := by decide

theorem test_witness_CrcCommandsWriteAndAnswer : { base with crc := 0#16 }.crc = 0#16 ∧ base.crc ≠ 0#16 := by decide

theorem test_witness_CrcResidueIsZeroExactlyOnValidFrames : 2 ≤ [0xFF#8, 0xFF#8].length := by decide

theorem test_witness_CrcRejectsEverySingleByteChange :
    ([] ++ [(crc16 []).extractLsb' 0 8, (crc16 []).extractLsb' 8 8])[1]? = some 0xFF#8 ∧ 0#8 ≠ 0xFF#8 := by decide

theorem test_witness_CrcUnitVerifiesAFedFrame :
    2 ≤ [0xFF#8, 0xFF#8].length ∧
    (given base (inputsOf [.crcInit, .crcUpd 0xFF#8, .crcUpd 0xFF#8, .crcChk])).inputs =
      inputsOf (.crcInit :: [0xFF#8, 0xFF#8].map .crcUpd ++ [.crcChk]) ++ [] := by decide

theorem test_witness_LrcCommandsWriteAndAnswer : base.sum = 0#8 ∧ { base with sum := 0xFF#8 }.sum ≠ 0#8 := by decide

theorem test_witness_LrcResidueIsZeroExactlyOnValidBodies : 1 ≤ [0x00#8].length := by decide

theorem test_witness_LrcRejectsEverySingleByteChange :
    ([0x01#8] ++ [lrc [0x01#8]])[1]? = some 0xFF#8 ∧ 0#8 ≠ 0xFF#8 ∧
    ([0x01#8, 0xFF#8].map BitVec.toNat).sum % 256 = ([0x00#8].map BitVec.toNat).sum % 256 ∧
    [0x01#8, 0xFF#8].Perm [0xFF#8, 0x01#8] := by decide

theorem test_witness_LrcUnitVerifiesAFedBody :
    1 ≤ [0x80#8].length ∧
    (given base (inputsOf [.lrcInit, .lrcUpd 0x80#8, .lrcChk])).inputs =
      inputsOf (.lrcInit :: [0x80#8].map .lrcUpd ++ [.lrcChk]) ++ [] := by decide

theorem test_witness_HexDecAcceptsExactlyTheAlphabet :
    hexEncode 15#4 = 0x46#8 ∧ (∀ n : Nibble, hexEncode n ≠ 0x47#8) ∧ (∀ n : Nibble, hexEncode n ≠ 0x3A#8) := by decide

theorem test_witness_FrModeSelectsTheFormat :
    (waiting .rtu).phase = .wait ∧ base.phase = .idle ∧ Mode.rtu.code = 0#2 ∧ Mode.bridge.code = 2#2 := by decide

theorem test_witness_TransmitBufferCommands :
    (waiting .rtu).phase = .wait ∧ base.phase = .idle ∧ (List.replicate 256 0#8).length = 256 ∧
    (List.replicate 255 0#8).length ≠ 256 := by decide +kernel

theorem test_witness_FrXactChecksInOrder :
    (waiting .rtu).phase = .wait ∧ (base.phase = .idle ∧ base.link ≠ .connected) ∧
    (let s := { ready .rtu with txbuf := [1#8] }
     s.phase = .idle ∧ s.link = .connected ∧ s.txbuf.length < 2) := by decide

theorem test_witness_FrXactEmitsTheFrameAndWaits :
    (∀ mode ∈ [Mode.rtu, Mode.ascii, Mode.bridge],
      (ready mode).phase = .idle ∧ (ready mode).link = .connected ∧ 2 ≤ (ready mode).txbuf.length ∧
      (ready mode).mode = mode) := by decide

theorem test_witness_TxidAndMsgcntMoveOnlyByAcceptedXact :
    (∃ t, exec .frXact (ready .bridge) = .next t) ∧ startsTransaction .frXact (ready .bridge) ∧
    (∃ t, exec .frXact base = .next t) ∧ ¬ startsTransaction .frXact base := ⟨⟨_, rfl⟩, by decide, ⟨_, rfl⟩, by decide⟩

theorem test_witness_OnlyAcceptedXactEmits : ∃ t, exec .frXact (ready .rtu) = .next t := ⟨_, rfl⟩

theorem test_witness_FramesHaveTheBytesOfTheirFormats :
    (2 ≤ [1#8, 3#8].length ∧ [1#8, 3#8].length ≤ 256) ∧
    (2 ≤ (List.replicate 256 0#8).length ∧ (List.replicate 256 0#8).length ≤ 256) ∧
    (encAscii [])[0]? = some 0x3A#8 ∧ (encAscii [])[3]? = some 0x0D#8 ∧ (encAscii [])[4]? = some 0x0A#8 := by decide +kernel

theorem test_witness_FramerAndChecksumUnitsAreIndependent :
    isChecksum (.evRx 0#8) = false ∧ isChecksum .frXact = false ∧ isChecksum .crcChk = true := by decide

theorem test_witness_CompleteDeliversTheMessage : 2 ≤ [0x01#8, 0x83#8].length := by decide

theorem test_witness_FailWritesExactlyTheseRegisters :
    base.phase = .idle ∧ (∃ t, exec .frXact base = .next t) ∧ ¬ startsTransaction .frXact base :=
  ⟨rfl, ⟨_, rfl⟩, by decide⟩

/-- The ends of every range of DEFAULT_SHAPE's classes: 0x04, 0x05, 0x2B, 0x7F and 0x80. -/
theorem test_witness_ResponseLengthsFollowTheShape :
    (shapeOf base.cfg 0x05#8 = .fixed 6 ∧ shapeOf base.cfg 0x04#8 = .counted ∧ shapeOf base.cfg 0x2B#8 = .unknown ∧
      shapeOf base.cfg 0x7F#8 = .unknown ∧ shapeOf base.cfg 0x80#8 = .fixed 3) ∧
    (configAllowed base.cfg ∧ bodyLen base.cfg [0x01#8, 0x03#8, 0xFF#8] = some 258) ∧
    base.cfg.shapeRows = defaultShape := by decide +kernel

theorem test_witness_ReceivedByteGoesToTheReceiveStepOfTheMode :
    base.phase = .idle ∧ ∀ mode ∈ [Mode.rtu, Mode.ascii, Mode.bridge],
      (waiting mode).phase = .wait ∧ (waiting mode).mode = mode := by decide

/-- Every clause at the edge of its length: one byte short of known length, at it with and without a valid CRC, at the cap
and before it, and with unknown length at 4 and at 5 bytes. -/
theorem test_witness_RtuReceiveStep :
    ((waiting .rtu).phase = .wait ∧ (waiting .rtu).mode = .rtu ∧ configAllowed (waiting .rtu).cfg) ∧
    (bodyLen base.cfg [0x01#8, 0x83#8, 0x02#8, 0xC0#8] = some 3 ∧ [0x01#8, 0x83#8, 0x02#8, 0xC0#8].length < 3 + 2) ∧
    (3 + 2 ≤ [0x01#8, 0x83#8, 0x02#8, 0xC0#8, 0xF1#8].length ∧
      crcOk ([0x01#8, 0x83#8, 0x02#8, 0xC0#8, 0xF1#8].take (3 + 2)) = true) ∧
    crcOk ([0x01#8, 0x83#8, 0x02#8, 0xC0#8, 0xF0#8].take (3 + 2)) = false ∧
    (3 + 1 = base.cfg.resyncCap ∧ 2 + 1 ≠ base.cfg.resyncCap) ∧
    (bodyLen base.cfg [0x01#8, 0x2B#8, 0#8, 0#8] = none ∧ [0x01#8, 0x2B#8, 0#8, 0#8].length < 5) ∧
    (bodyLen base.cfg [0x01#8, 0x2B#8, 0#8, 0#8, 0#8] = none ∧ 5 ≤ [0x01#8, 0x2B#8, 0#8, 0#8, 0#8].length) := by decide +kernel

theorem test_witness_RtuFrameOfAMessageIsDelivered :
    let s := given (waiting .rtu) (inputsOf ((encRtu [0x01#8, 0x83#8, 0x02#8]).map .evRx))
    s.phase = .wait ∧ s.mode = .rtu ∧ s.rxw = [] ∧ shapeOk s.cfg [0x01#8, 0x83#8, 0x02#8] = true ∧
    s.inputs = inputsOf ((encRtu [0x01#8, 0x83#8, 0x02#8]).map .evRx) ++ [] := by decide +kernel

theorem test_witness_AsciiReceiveStep :
    let body := { waiting .ascii with astate := .body, nib := some 4#4 }
    ((waiting .ascii).phase = .wait ∧ (waiting .ascii).mode = .ascii ∧ (waiting .ascii).astate = .hunt) ∧
    (body.astate = .body ∧ body.nib ≠ none ∧ { body with nib := none }.nib = none) ∧
    (0x47#8 ≠ 0x3A#8 ∧ 0x47#8 ≠ 0x0D#8 ∧ hexDecode 0x47#8 = none) ∧ hexDecode 0x46#8 = some 15#4 ∧
    ({ body with rxw := List.replicate 259 0#8 }.rxw.length = 259 ∧
      { body with rxw := List.replicate 258 0#8 }.rxw.length ≠ 259) ∧
    (asciiDone.astate = .cr ∧ 0x0D#8 ≠ 0x3A#8 ∧ 0x0D#8 ≠ 0x0A#8) := by decide +kernel

theorem test_witness_AsciiEndOfFrameChecks :
    (asciiDone.phase = .wait ∧ asciiDone.mode = .ascii ∧ asciiDone.astate = .cr) ∧
    { asciiDone with rxw := [] }.rxw = [] ∧
    (asciiDone.rxw ≠ [] ∧ lrcOk [0x01#8] = false) ∧
    (lrcOk asciiDone.rxw = true ∧ bodyLen asciiDone.cfg (asciiDone.rxw.take (asciiDone.rxw.length - 1)) = some 3) ∧
    (lrcOk [0x00#8] = true ∧ bodyLen asciiDone.cfg ([0x00#8].take ([0x00#8].length - 1)) ≠ some 0) := by decide

theorem test_witness_AsciiFrameOfAMessageIsDelivered :
    let m := [0x01#8, 0x07#8, 0x00#8]
    let s := given { asciiDone with rxw := [9#8] } (inputsOf ((encAscii m).map .evRx))
    s.phase = .wait ∧ s.mode = .ascii ∧ m.length ≤ 258 ∧ shapeOk s.cfg m = true ∧
    s.inputs = inputsOf ((encAscii m).map .evRx) ++ [] := by decide

/-- The sixth to the ninth byte, each with the right and the wrong value; a COUNTED response ends at n = 9 with count 0. -/
theorem test_witness_BridgeReceiveStep :
    (let s := bridgeWindow []
     s.phase = .wait ∧ s.mode = .bridge ∧ s.txbuf = 0x01#8 :: 0x03#8 :: [] ∧ configAllowed s.cfg) ∧
    ({ waiting .bridge with rxw := [0#8, 1#8, 0#8, 0#8, 0#8] }.rxw ++ [5#8]).length ≤ 6 ∧
    (((bridgeWindow []).rxw ++ [0x01#8]).length = 7 ∧ 0x02#8 ≠ 0x01#8) ∧
    (((bridgeWindow [0x01#8]).rxw ++ [0x03#8]).length = 8 ∧ 0x04#8 ≠ 0x03#8) ∧
    (shapeOf base.cfg 0x2B#8 = .unknown ∧ { waiting .bridge with txbuf := [0x01#8, 0x2B#8] }.txbuf = [0x01#8, 0x2B#8]) ∧
    shapeOf base.cfg 0x03#8 ≠ .unknown ∧
    (let w := (bridgeWindow [0x01#8, 0x03#8]).rxw ++ [0x00#8]
     9 ≤ w.length ∧ bodyLen base.cfg (w.drop 6) = some 3 ∧ w.length = 6 + 3) ∧
    (let w := (bridgeWindow [0x01#8, 0x03#8]).rxw ++ [0x01#8]
     9 ≤ w.length ∧ bodyLen base.cfg (w.drop 6) = some 4 ∧ w.length ≠ 6 + 4) := by decide

theorem test_witness_BridgeFrameOfAMessageIsDelivered :
    let m := [0x01#8, 0x03#8, 0x00#8]
    let s := given (waiting .bridge) (inputsOf (([9#8, 9#8, 9#8, 9#8, 9#8, 9#8] ++ m).map .evRx))
    s.phase = .wait ∧ s.mode = .bridge ∧ s.rxw = [] ∧ [9#8, 9#8, 9#8, 9#8, 9#8, 9#8].length = 6 ∧
    s.txbuf[0]? = m[0]? ∧ s.txbuf[1]? = m[1]? ∧ shapeOk s.cfg m = true ∧
    s.inputs = inputsOf (([9#8, 9#8, 9#8, 9#8, 9#8, 9#8] ++ m).map .evRx) ++ [] := by decide

theorem test_witness_TimeoutFailsTheTransaction : (waiting .rtu).phase = .wait ∧ base.phase = .idle := by decide

theorem test_witness_LastByteAndTimeoutInEitherOrder :
    asciiDone.phase = .wait ∧ (∃ t, exec (.evRx 0x0A#8) asciiDone = .next t ∧ t.done = true) ∧ asciiDone.done = false :=
  ⟨rfl, ⟨_, rfl, rfl⟩, rfl⟩

theorem test_witness_ReadBackCommandsAnswer :
    base.rxptr = base.rxbuf.length ∧ { base with rxbuf := [7#8] }.rxbuf[base.rxptr]? = some 7#8 := by decide

theorem test_witness_RxpopDrainsTheResponseInOrder :
    let s := given { base with rxbuf := [1#8, 3#8, 0#8], rxptr := 1 } (inputsOf [.frRxpop, .frRxpop])
    s.rxptr ≤ s.rxbuf.length ∧ s.inputs = inputsOf (List.replicate (s.rxbuf.length - s.rxptr) .frRxpop) ++ [] := by decide

theorem test_witness_ConnectAndDisconnect :
    base.link = .disconnected ∧ (ready .rtu).link ≠ .disconnected ∧ (waiting .rtu).phase = .wait ∧ base.phase = .idle := by
  decide

theorem test_witness_LinkEvents :
    (Instr.evLinkfail 2#4).wellFormed = true ∧ { base with link := .connecting }.link = .connecting ∧
    base.link ≠ .connecting ∧ ((waiting .rtu).link = .connected ∧ (waiting .rtu).phase = .wait) ∧
    ((ready .rtu).link = .connected ∧ (ready .rtu).phase = .idle) ∧ base.link ≠ .connected := by decide

theorem test_witness_LinkMovesOnlyAsTheTableSays :
    (∃ t, exec .frConnect base = .next t ∧ base.link = .disconnected) ∧
    (∃ t, exec (.evLinkfail 12#4) { base with link := .connecting } = .next t ∧ t.lerr ≠ base.lerr) ∧
    (∃ t, exec .evIofail (waiting .rtu) = .next t ∧ (waiting .rtu).link = .connected) ∧
    (∃ t, exec .frDisconnect (waiting .rtu) = .next t ∧ (waiting .rtu).phase = .wait) :=
  ⟨⟨_, rfl, rfl⟩, ⟨_, rfl, by decide⟩, ⟨_, rfl, rfl⟩, ⟨_, rfl, rfl⟩⟩

theorem test_inv_base (is : List Input) : Inv (given base is) := by
  show Inv base
  exact ⟨by decide, by decide, by decide, by decide, by decide, by decide, by decide⟩

theorem test_inv_rtu : Inv (waiting .rtu) := ⟨by decide, by decide, by decide, by decide, by decide, by decide, by decide⟩

theorem test_inv_ascii : Inv { waiting .ascii with astate := .body, nib := some 0#4 } :=
  ⟨by decide, by decide, by decide, by decide, by decide, by decide, by decide⟩

theorem test_inv_bridge : Inv (bridgeWindow [0x01#8, 0x03#8, 0x01#8]) := ⟨by decide, by decide, by decide, by decide, by decide, by decide, by decide⟩

theorem test_witness_InvariantIsKeptByEveryStep :
    Inv (given base [.word (.command 0x4100#16)]) ∧ (∃ t, step (given base [.word (.command 0x4100#16)]) = .next t) :=
  ⟨test_inv_base _, ⟨_, rfl⟩⟩

theorem test_witness_InvariantBoundsTheWindow :
    (Inv (waiting .rtu) ∧ (waiting .rtu).mode = .rtu) ∧
    (∃ s, Inv s ∧ s.mode = .ascii ∧ s.phase = .wait) ∧ (∃ s, Inv s ∧ s.mode = .bridge ∧ s.rxw.length = 9) :=
  ⟨⟨test_inv_rtu, rfl⟩, ⟨_, test_inv_ascii, rfl, rfl⟩, ⟨_, test_inv_bridge, rfl, rfl⟩⟩

theorem test_witness_BlockNeverStopsUnderTheInvariant :
    Inv (given base [.word (.event 0x501#12)]) ∧ Inv (given base [.reset]) := ⟨test_inv_base _, test_inv_base _⟩

theorem test_witness_RejectedCommandsChangeNothing :
    (∃ t, exec .frRxpop base = .next t) ∧ Instr.frRxpop.isCommand = true ∧
    (∃ t, exec .evTimeout base = .next t) ∧ Instr.evTimeout.isCommand = false := ⟨⟨_, rfl⟩, rfl, ⟨_, rfl⟩, rfl⟩

theorem test_witness_FirstFailedCheckGivesTheAnswer :
    (given base [.word (.command 0x4500#16)]).inputs = .word (.command 0x4500#16) :: [] ∧ base.rxptr ≤ base.rxbuf.length ∧
    decode (.command 0x4004#16) = .error (.reservedModeBits 4#8) ∧ decode (.command 0x4500#16) = .ok .frXact ∧
    firstFailedCheck .frXact base = some .notConnected ∧ firstFailedCheck .frXact (ready .rtu) = none := by decide

theorem test_witness_PhaseMovesOnlyByXactCompleteAndFail :
    (∃ t, exec .frXact (ready .rtu) = .next t ∧ (ready .rtu).phase = .idle ∧ t.phase = .wait) ∧
    (∃ t, exec .evTimeout (waiting .rtu) = .next t ∧ (waiting .rtu).phase = .wait ∧ t.phase = .idle) :=
  ⟨⟨_, rfl, rfl, rfl⟩, ⟨_, rfl, rfl, rfl⟩⟩

/-- An outside that delivers @TIMEOUT again and again keeps its duty, and meets a transaction in flight. -/
theorem test_witness_EveryTransactionEndsIfTheEnvironmentKeepsItsDuty :
    Inv (waiting .rtu) ∧ EnvironmentKeepsItsDuty (fun _ => some (.word (encode .evTimeout))) (waiting .rtu) ∧
    (stateAfter (fun _ => some (.word (encode .evTimeout))) (waiting .rtu) 0 = .next (waiting .rtu) ∧
      (waiting .rtu).phase = .wait) :=
  ⟨test_inv_rtu, fun n u h _ => ⟨n, u, Nat.le_refl n, h, .inr (.inl rfl)⟩, rfl, rfl⟩

/-- A silent outside does not keep its duty. -/
theorem test_silence_breaks_the_duty : ¬ EnvironmentKeepsItsDuty (fun _ => none) (waiting .rtu) := by
  have stays : ∀ n, ∀ v, stateAfter (fun _ => none) (waiting .rtu) n = .next v → v.phase = .wait := by
    intro n
    induction n with
    | zero => rintro v ⟨⟩; rfl
    | succ n ih =>
      intro v h
      obtain ⟨u, hu, hv⟩ := stateAfter_succ_eq_next h
      cases hv
      exact ih u hu
  intro duty
  obtain ⟨m, v, -, hv, hi | hi | hi⟩ := duty 0 _ rfl rfl
  · simp [stays m v hv] at hi
  · cases hi
  · cases hi

theorem test_witness_CommandsChangeOnlyTheirRegister :
    (∃ t, exec .frStat (waiting .rtu) = .next t) ∧
    (∃ t, exec (.crcUpd 1#8) base = .next t) ∧ (∃ t, exec (.lrcUpd 1#8) base = .next t) ∧
    (∃ t, exec (.frMode 1#2) base = .next t) ∧ (∃ t, exec (.frTxpush 1#8) base = .next t) ∧
    (∃ t, exec .frRxpop { base with rxbuf := [1#8] } = .next t) :=
  ⟨⟨_, rfl⟩, ⟨_, rfl⟩, ⟨_, rfl⟩, ⟨_, rfl⟩, ⟨_, rfl⟩, ⟨_, rfl⟩⟩

theorem test_witness_TransactionsLeaveTheOtherRegistersAlone :
    (∃ t, exec .frXact (ready .rtu) = .next t) ∧ (∃ t, exec (.evRx 0x0A#8) asciiDone = .next t) ∧
    (∃ t, exec .evTimeout (waiting .rtu) = .next t) := ⟨⟨_, rfl⟩, ⟨_, rfl⟩, ⟨_, rfl⟩⟩

theorem test_witness_LinkInputsLeaveTheOtherRegistersAlone :
    (∃ t, exec .frDisconnect (waiting .rtu) = .next t) ∧ (waiting .rtu).phase = .wait ∧
    (∃ t, exec .evIofail (ready .rtu) = .next t) ∧ (ready .rtu).phase = .idle := ⟨⟨_, rfl⟩, rfl, ⟨_, rfl⟩, rfl⟩

end Sys2Proof.Tests
end

section
/-! What a step does when no input waits and when the input waiting is a reset. -/

namespace Sys2Proof.Machine

/-- The block has no step of its own (00_scope R15; log 2). -/
theorem step_nil {s : State} (h : s.inputs = []) : step s = .next s := by
  have hnone : takeInput s = none := by simp [takeInput, h]
  simp [step, hnone]

/-- A reset waiting is taken, and is then applied to the state with the remaining inputs (70_reset R260). -/
theorem step_reset {s : State} {rest : List Input} (h : s.inputs = .reset :: rest) :
    step s = .next ({ s with inputs := rest } : State).applyReset := step_cons h

/-- Settles O7: the step without an input is `step_nil`; over a reset, the records are `applyReset`'s. -/
theorem modelsOwnRecordsOnAStep : Obligations.ModelsOwnRecordsOnAStep := by
  unfold Obligations.ModelsOwnRecordsOnAStep
  constructor
  · exact fun s => step_nil
  · intro s rest h
    exact ⟨_, step_reset h, State.applyReset_lineOut _, State.applyReset_answers _, State.applyReset_inputs _⟩

end Sys2Proof.Machine
end

section
/-! The invariant of 10_state R38 by phase: what an idle and a waiting state have to meet, and reset. -/

namespace Sys2Proof.Machine

/-- The part of the invariant that speaks of nothing a transaction writes. -/
structure BaseInv (s : State) : Prop where
  config : configAllowed s.cfg
  txbuf_le : s.txbuf.length ≤ 256
  lerr_known : s.lerr.toNat ∈ [0, 2, 8, 10, 11, 12]

/-- The invariant while no transaction is in flight. -/
structure IdleInv (s : State) : Prop extends BaseInv s where
  phase : s.phase = .idle
  rxbuf_le : s.rxbuf.length ≤ 258
  rxptr_le : s.rxptr ≤ s.rxbuf.length
  receiver_cleared : s.rxw = [] ∧ s.nib = none ∧ s.iter = 0 ∧ s.astate = .hunt
  err_known : s.err.toNat ∈ [0, 2, 3, 4, 6, 7]
  of_done : s.done = true → s.err = 0#4 ∧ 2 ≤ s.rxbuf.length ∧ s.rxbuf[1]?.map exceptionBit = some s.exc
  of_not_done : s.done = false → s.rxbuf = []

/-- The invariant while a transaction is in flight. -/
structure WaitInv (s : State) : Prop extends BaseInv s where
  phase : s.phase = .wait
  link : s.link = .connected
  txbuf_ge : 2 ≤ s.txbuf.length
  done : s.done = false
  err : s.err = 0#4
  rxbuf : s.rxbuf = []
  rxptr : s.rxptr = 0
  iter_lt : s.iter < s.cfg.resyncCap
  window : WindowInvariant s

theorem Mode.code_le (m : Mode) : m.code.toNat ≤ 2 := by cases m <;> decide

theorem Link.code_le (l : Link) : l.code.toNat ≤ 2 := by cases l <;> decide

theorem IdleInv.inv {s : State} (h : IdleInv s) : Inv s := by
  have hw : s.phase ≠ .wait := by simp [h.phase]
  have herr : s.err ≠ 0#4 → s.done = false := fun he => by
    cases hd : s.done with
    | false => rfl
    | true => exact absurd (h.of_done hd).1 he
  refine ⟨h.config, ⟨⟨Mode.code_le _, Link.code_le _⟩, ⟨h.txbuf_le, h.rxbuf_le, h.rxptr_le⟩, fun hp => absurd hp hw,
    fun _ => h.receiver_cleared, fun hd => ⟨h.phase, h.of_done hd⟩,
    fun he => ⟨h.phase, herr he, h.of_not_done (herr he)⟩, h.of_not_done, fun _ => h.phase⟩,
    ⟨h.err_known, h.lerr_known⟩, ?_⟩
  exact ⟨fun hp => absurd hp hw, fun hp => absurd hp hw, fun hp => absurd hp hw, fun hp => absurd hp hw⟩

theorem WaitInv.inv {s : State} (h : WaitInv s) : Inv s := by
  have hi : s.phase ≠ .idle := by simp [h.phase]
  have hl : s.link ≠ .connecting := by simp [h.link]
  have hd : s.done ≠ true := by simp [h.done]
  exact ⟨h.config, ⟨⟨Mode.code_le _, Link.code_le _⟩, ⟨h.txbuf_le, by simp [h.rxbuf], by simp [h.rxptr]⟩,
    fun _ => ⟨h.link, h.txbuf_ge, h.done, h.err, h.rxbuf, h.iter_lt⟩, fun hp => absurd hp hi,
    fun hd' => absurd hd' hd, fun he => absurd h.err he, fun _ => h.rxbuf, fun hl' => absurd hl' hl⟩,
    ⟨by simp [h.err], h.lerr_known⟩, h.window⟩

/-- The invariant says one thing of an idle state and another of a waiting one. -/
theorem inv_iff {s : State} : Inv s ↔ IdleInv s ∨ WaitInv s := by
  refine ⟨fun h => ?_, fun h => h.elim IdleInv.inv WaitInv.inv⟩
  obtain ⟨hcfg, ⟨-, ⟨htx, hrx, hptr⟩, hwait, hidle, hdone, -, hnot, -⟩, ⟨herr, hlerr⟩, hwin⟩ := h
  cases hp : s.phase with
  | idle => exact .inl ⟨⟨hcfg, htx, hlerr⟩, hp, hrx, hptr, hidle hp, herr, fun hd => (hdone hd).2, hnot⟩
  | wait =>
    obtain ⟨hl, htx2, hd, he, hbuf, hiter⟩ := hwait hp
    exact .inr ⟨⟨hcfg, htx, hlerr⟩, hp, hl, htx2, hd, he, hbuf, by simpa [hbuf] using hptr, hiter, hwin⟩

theorem idleInv_of_inv {s : State} (h : Inv s) (hp : s.phase = .idle) : IdleInv s := by
  rcases inv_iff.1 h with hi | hw
  · exact hi
  · simp [hw.phase] at hp

theorem waitInv_of_inv {s : State} (h : Inv s) (hp : s.phase = .wait) : WaitInv s := by
  rcases inv_iff.1 h with hi | hw
  · simp [hi.phase] at hp
  · exact hw

theorem baseInv_of_inv {s : State} (h : Inv s) : BaseInv s :=
  (inv_iff.1 h).elim (·.toBaseInv) (·.toBaseInv)

/-- What the echo checks of 44_framer_rx R191 and R193 have established of a window `w`. -/
def EchoesCommand (s : State) (w : List Byte) : Prop :=
  (7 ≤ w.length → w[6]? = s.txbuf[0]?) ∧
  (8 ≤ w.length → w[7]? = s.txbuf[1]? ∧ w[7]?.map (shapeOf s.cfg) ≠ some .unknown)

section
variable {s : State} (h : WaitInv s)
include h

theorem WaitInv.receiver_of_not_ascii (hm : s.mode ≠ .ascii) : s.nib = none ∧ s.astate = .hunt := by
  obtain ⟨hrecv, -, -, -⟩ := h.window
  exact hrecv h.phase hm

theorem WaitInv.rtu_short (hm : s.mode = .rtu) : s.rxw.length < rtuNeed s.cfg s.rxw := by
  obtain ⟨-, hrtu, -, -⟩ := h.window
  exact hrtu h.phase hm

theorem WaitInv.ascii_length_le (hm : s.mode = .ascii) : s.rxw.length ≤ 259 := by
  obtain ⟨-, -, hascii, -⟩ := h.window
  exact (hascii h.phase hm).1

theorem WaitInv.bridge_echoes (hm : s.mode = .bridge) : EchoesCommand s s.rxw := by
  obtain ⟨-, -, -, hbridge⟩ := h.window
  obtain ⟨hunit, hfunction, -⟩ := hbridge h.phase hm
  exact ⟨hunit, hfunction⟩

theorem WaitInv.bridge_short (hm : s.mode = .bridge) {l : Nat} (hl : bodyLen s.cfg (s.rxw.drop 6) = some l) :
    s.rxw.length < 6 + l := by
  obtain ⟨-, -, -, hbridge⟩ := h.window
  obtain ⟨-, -, hlen⟩ := hbridge h.phase hm
  simpa [hl] using hlen

end

/-- The window part of `Inv` in RTU mode (44_framer_rx R176). -/
theorem windowInvariant_of_rtu {s : State} (hm : s.mode = .rtu) (hn : s.nib = none) (ha : s.astate = .hunt)
    (hl : s.rxw.length < rtuNeed s.cfg s.rxw) : WindowInvariant s :=
  ⟨fun _ _ => ⟨hn, ha⟩, fun _ _ => hl, fun _ h => by simp [hm] at h, fun _ h => by simp [hm] at h⟩

/-- The window part of `Inv` in ASCII mode (44_framer_rx R180, R185). -/
theorem windowInvariant_of_ascii {s : State} (hm : s.mode = .ascii) (hl : s.rxw.length ≤ 259)
    (hhunt : s.astate = .hunt → s.rxw = [] ∧ s.nib = none) (hcr : s.astate = .cr → s.nib = none) :
    WindowInvariant s :=
  ⟨fun _ h => absurd hm h, fun _ h => by simp [hm] at h, fun _ _ => ⟨hl, hhunt, hcr⟩, fun _ h => by simp [hm] at h⟩

/-- The window part of `Inv` in BRIDGE mode (44_framer_rx R190, R192). -/
theorem windowInvariant_of_bridge {s : State} (hm : s.mode = .bridge) (hn : s.nib = none) (ha : s.astate = .hunt)
    (he : EchoesCommand s s.rxw) (hl : ∀ l, bodyLen s.cfg (s.rxw.drop 6) = some l → s.rxw.length < 6 + l) :
    WindowInvariant s :=
  have ⟨hunit, hfunction⟩ := he
  ⟨fun _ _ => ⟨hn, ha⟩, fun _ h => by simp [hm] at h, fun _ h => by simp [hm] at h,
    fun _ _ => ⟨hunit, hfunction, by simpa [Option.all_eq_true] using hl⟩⟩

/-- `fail` leads to an idle state that meets the invariant, from within a transaction or not (60_exceptions R236). -/
theorem idleInv_fail {s : State} {kind : ErrorKind} (h : BaseInv s) (hk : kind.code.toNat ∈ [2, 3, 4, 6, 7]) :
    IdleInv (s.fail kind) where
  toBaseInv := { h with }
  phase := rfl
  rxbuf_le := Nat.zero_le _
  rxptr_le := Nat.le_refl _
  receiver_cleared := ⟨rfl, rfl, rfl, rfl⟩
  err_known := List.mem_cons_of_mem _ hk
  of_done := fun hd => by simp at hd
  of_not_done := fun _ => rfl

/-- The end of a transaction with a response of at least 2 and at most 258 bytes (44_framer_rx R195). -/
theorem idleInv_deliver {s : State} {m : List Byte} (h : BaseInv s) (h2 : 2 ≤ m.length) (h258 : m.length ≤ 258) :
    IdleInv (s.deliver m (exceptionBit (m.getD 1 0#8))) where
  toBaseInv := { h with }
  phase := rfl
  rxbuf_le := h258
  rxptr_le := Nat.zero_le _
  receiver_cleared := ⟨rfl, rfl, rfl, rfl⟩
  err_known := by simp
  of_done := fun _ => ⟨rfl, h2, by simp [List.getElem?_eq_getElem (show 1 < m.length by omega)]⟩
  of_not_done := fun hd => by simp at hd

/-- An accepted FR.XACT starts with an empty window (43_framer_tx R146). -/
theorem waitInv_startTransaction {s : State} (h : BaseInv s) (hs : startsTransaction .frXact s) :
    WaitInv s.startTransaction where
  toBaseInv := { h with }
  phase := rfl
  link := let ⟨_, _, hlink, _⟩ := hs; hlink
  txbuf_ge := let ⟨_, _, _, hlen⟩ := hs; hlen
  done := rfl
  err := rfl
  rxbuf := rfl
  rxptr := rfl
  iter_lt := h.config.1
  window := ⟨fun _ _ => ⟨rfl, rfl⟩, fun _ _ => rtuNeed_pos _ _,
    fun _ _ => ⟨Nat.zero_le _, fun _ => ⟨rfl, rfl⟩, fun _ => rfl⟩, fun _ _ => ⟨nofun, nofun, rfl⟩⟩

/-- Reset leads to an idle state that meets the invariant, whatever the state was (10_state R39). -/
theorem idleInv_applyReset {s : State} (h : configAllowed s.cfg) : IdleInv s.applyReset where
  config := h
  txbuf_le := Nat.zero_le _
  lerr_known := by simp
  phase := rfl
  rxbuf_le := Nat.zero_le _
  rxptr_le := Nat.le_refl _
  receiver_cleared := ⟨rfl, rfl, rfl, rfl⟩
  err_known := by simp
  of_done := fun hd => by simp at hd
  of_not_done := fun _ => rfl

theorem configAllowed_defaultConfig : configAllowed defaultConfig := ⟨Nat.succ_pos _, rfl⟩

/-- Settles O50: the reset state is what reset makes of itself, and its configuration is the default one. -/
theorem invariantHoldsAtReset : Obligations.InvariantHoldsAtReset := by
  unfold Obligations.InvariantHoldsAtReset
  have hreset : State.reset = State.reset.applyReset := rfl
  rw [hreset]
  exact (idleInv_applyReset configAllowed_defaultConfig).inv

@[simp] theorem State.applyReset_status (s : State) : s.applyReset.status = 0#16 :=
  (by decide : State.reset.status = 0#16)

/-- Settles O9: a step over a reset is `applyReset` (`step_reset`), whose fields the table of 10_state R39 gives. -/
theorem resetPutsEveryRegisterAtItsResetValue : Obligations.ResetPutsEveryRegisterAtItsResetValue := by
  unfold Obligations.ResetPutsEveryRegisterAtItsResetValue
  intro s rest h
  exact ⟨_, step_reset h, by simp⟩

/-- Where the length of a window's message is not known, the window is of at most 2 bytes or its class is UNKNOWN
(44_framer_rx R173). -/
theorem bodyLen_eq_none {c : Config} {m : List Byte} (h : bodyLen c m = none) :
    m.length ≤ 2 ∨ m[1]?.map (shapeOf c) = some .unknown := by
  match m, h with
  | [], _ => simp
  | [_], _ => simp
  | [_, _], _ => simp
  | _ :: f :: _ :: _, h =>
    right
    simp only [bodyLen] at h
    split at h <;> simp_all

/-- In BRIDGE mode the length is known once the window holds more than the header and two bytes (44_framer_rx R193). -/
theorem WaitInv.bridge_length_known {s : State} (h : WaitInv s) (hm : s.mode = .bridge) (hl : 8 < s.rxw.length) :
    ∃ l, bodyLen s.cfg (s.rxw.drop 6) = some l := by
  obtain ⟨-, hfunction⟩ := h.bridge_echoes hm
  cases hb : bodyLen s.cfg (s.rxw.drop 6) with
  | some l => exact ⟨l, rfl⟩
  | none =>
    rcases bodyLen_eq_none hb with h2 | hu
    · rw [List.length_drop] at h2; omega
    · exact absurd (by simpa using hu) (hfunction (by omega)).2

theorem rtuNeed_le {c : Config} {w : List Byte} (ha : configAllowed c) : rtuNeed c w ≤ 260 := by
  unfold rtuNeed
  split
  · have := bodyLen_bounds ha ‹_›; omega
  · decide

/-- Settles O52: an idle window is empty; a waiting one is below its `need` in RTU mode, and below the header and the
known length in BRIDGE mode. -/
theorem invariantBoundsTheWindow : Obligations.InvariantBoundsTheWindow := by
  unfold Obligations.InvariantBoundsTheWindow
  intro s h
  rcases inv_iff.1 h with hi | hw
  · simp [hi.receiver_cleared.1]
  refine ⟨fun hm => ?_, fun hm => hw.ascii_length_le hm, fun hm => ?_⟩
  · have hshort := hw.rtu_short hm
    have hneed : rtuNeed s.cfg s.rxw ≤ 260 := rtuNeed_le hw.config
    omega
  · by_contra hlong
    obtain ⟨l, hl⟩ := hw.bridge_length_known hm (by omega)
    have hshort := hw.bridge_short hm hl
    have hbound := (bodyLen_bounds hw.config hl).2
    omega

end Sys2Proof.Machine
end

section
/-! What each instruction can do to the state, said once; what a received byte does under the invariant. -/

namespace Sys2Proof.Machine

/-- Everything an instruction that goes on can do to the state, up to the records and the checksum registers. -/
inductive ExecEffect (s : State) : Instr → State → Prop where
  | answered (i : Instr) (c : Word) (m : Byte) (as : List Answer) :
      ExecEffect s i { s with crc := c, sum := m, answers := as }
  | configured (i : Instr) (mode : Mode) (txbuf : List Byte) (as : List Answer) (hp : s.phase = .idle)
      (hl : s.txbuf.length ≤ 256 → txbuf.length ≤ 256) :
      ExecEffect s i { s with mode := mode, txbuf := txbuf, answers := as }
  | popped (as : List Answer) (hl : s.rxptr < s.rxbuf.length) :
      ExecEffect s .frRxpop { s with rxptr := s.rxptr + 1, answers := as }
  | started (h : startsTransaction .frXact s) (out : List Byte) (as : List Answer) :
      ExecEffect s .frXact { s.startTransaction with lineOut := out, answers := as }
  | linkMoved (i : Instr) (link : Link) (lerr : Nibble) (as : List Answer)
      (hl : s.link ≠ .connected ∨ s.phase = .idle) (hk : lerr = s.lerr ∨ lerr.toNat ∈ [0, 2, 8, 10, 11, 12]) :
      ExecEffect s i { s with link := link, lerr := lerr, answers := as }
  | failed (i : Instr) (kind : ErrorKind) (link : Link) (tocnt : Word) (as : List Answer) (hp : s.phase = .wait)
      (hi : i = .evTimeout ∨ i = .evIofail ∨ i = .frDisconnect)
      (hk : kind ∈ [.connectionFailure, .responseTimeout, .transactionFailure]) :
      ExecEffect s i { s.fail kind with link := link, tocnt := tocnt, answers := as }
  | received (b : Byte) (t : State) (h : execEvRx b s = .next t) : ExecEffect s (.evRx b) t

theorem ExecEffect.rejected {s : State} (i : Instr) (kind : ErrorKind) : ExecEffect s i (s.reject kind) :=
  .answered i _ _ _

theorem ExecEffect.unchanged {s : State} (i : Instr) : ExecEffect s i s := .answered i s.crc s.sum s.answers

theorem execHexDec_effect {c : Byte} {s t : State} (h : execHexDec c s = .next t) : ExecEffect s (.hexDec c) t := by
  unfold execHexDec at h
  split at h
  · cases h; exact .rejected _ _
  · cases h; exact .answered ..

theorem execFrMode_effect {m : BitVec 2} {s t : State} (h : execFrMode m s = .next t) :
    ExecEffect s (.frMode m) t := by
  unfold execFrMode at h
  split at h
  · cases h; exact .rejected _ _
  rename_i hb
  have hp := busy_eq_false_iff.1 (Bool.eq_false_of_not_eq_true hb)
  split at h
  · cases h; exact .rejected _ _
  · cases h; exact .configured _ _ _ _ hp id

theorem execFrTxclr_effect {s t : State} (h : execFrTxclr s = .next t) : ExecEffect s .frTxclr t := by
  unfold execFrTxclr at h
  split at h
  · cases h; exact .rejected _ _
  rename_i hb
  cases h
  exact .configured _ _ _ _ (busy_eq_false_iff.1 (Bool.eq_false_of_not_eq_true hb)) fun _ => Nat.zero_le _

theorem execFrTxpush_effect {b : Byte} {s t : State} (h : execFrTxpush b s = .next t) :
    ExecEffect s (.frTxpush b) t := by
  unfold execFrTxpush at h
  split at h
  · cases h; exact .rejected _ _
  rename_i hb
  have hp := busy_eq_false_iff.1 (Bool.eq_false_of_not_eq_true hb)
  split at h
  · cases h; exact .rejected _ _
  rename_i hfull
  cases h
  refine .configured _ _ _ _ hp fun hle => ?_
  simp only [txCapacity] at hfull
  simp only [List.length_append, List.length_singleton]
  omega

theorem execFrXact_effect {s t : State} (h : execFrXact s = .next t) : ExecEffect s .frXact t := by
  rcases execFrXact_next h with ⟨hs, rfl⟩ | ⟨-, kind, rfl⟩
  · exact .started hs _ _
  · exact .rejected _ _

theorem execFrRxpop_effect {s t : State} (h : execFrRxpop s = .next t) : ExecEffect s .frRxpop t := by
  unfold execFrRxpop at h
  split at h
  · cases h; exact .rejected _ _
  · split at h
    · cases h
    · rename_i v hv
      cases h
      exact .popped _ (List.getElem?_eq_some_iff.1 hv).1

theorem execFrConnect_effect {s t : State} (h : execFrConnect s = .next t) : ExecEffect s .frConnect t := by
  unfold execFrConnect at h
  split at h
  · rename_i hl; cases h; exact .linkMoved _ _ _ _ (.inl (by simp [hl])) (.inr (.head _))
  · cases h; exact .answered ..
  · cases h; exact .answered ..

theorem execFrDisconnect_effect {s t : State} (h : execFrDisconnect s = .next t) : ExecEffect s .frDisconnect t := by
  unfold execFrDisconnect at h
  cases hp : s.phase with
  | idle =>
    rw [failIfBusy_of_idle _ hp] at h
    cases h
    exact .linkMoved _ _ _ _ (.inr hp) (.inl rfl)
  | wait =>
    rw [failIfBusy_of_wait _ hp] at h
    cases h
    exact .failed _ .transactionFailure _ _ _ hp (by simp) (by decide)

theorem execEvIofail_effect {s t : State} (h : execEvIofail s = .next t) : ExecEffect s .evIofail t := by
  unfold execEvIofail at h
  split at h
  · cases hp : s.phase with
    | idle =>
      rw [failIfBusy_of_idle _ hp] at h
      cases h
      exact .linkMoved _ _ _ _ (.inr hp) (.inl rfl)
    | wait =>
      rw [failIfBusy_of_wait _ hp] at h
      cases h
      exact .failed _ .connectionFailure _ _ _ hp (by simp) (by decide)
  · cases h; exact .unchanged _
  · cases h; exact .unchanged _

theorem execEvTimeout_effect {s t : State} (h : execEvTimeout s = .next t) : ExecEffect s .evTimeout t := by
  unfold execEvTimeout at h
  split at h
  · cases h; exact .failed _ .responseTimeout _ _ _ ‹_› (by simp) (by decide)
  · cases h; exact .unchanged _

theorem execEvLinkok_effect {s t : State} (h : execEvLinkok s = .next t) : ExecEffect s .evLinkok t := by
  unfold execEvLinkok at h
  split at h
  · rename_i hl; cases h; exact .linkMoved _ _ _ _ (.inl (by simp [hl])) (.inl rfl)
  · cases h; exact .unchanged _
  · cases h; exact .unchanged _

/-- LERR's values after @LINKFAIL (30_encoding R76). -/
theorem linkfailKind_code_known {k : Nibble} {kind : ErrorKind} (h : linkfailKind k = some kind) :
    kind.code.toNat ∈ [0, 2, 8, 10, 11, 12] := by
  revert kind; revert k; decide

theorem execEvLinkfail_effect {k : Nibble} {s t : State} (h : execEvLinkfail k s = .next t) :
    ExecEffect s (.evLinkfail k) t := by
  unfold execEvLinkfail at h
  split at h
  · cases h
  rename_i hk
  split at h
  · rename_i hl; cases h; exact .linkMoved _ _ _ _ (.inl (by simp [hl])) (.inr (linkfailKind_code_known hk))
  · cases h; exact .unchanged _
  · cases h; exact .unchanged _

/-- Everything an instruction can do. -/
theorem exec_effect {i : Instr} {s t : State} (h : exec i s = .next t) : ExecEffect s i t := by
  cases i with
  | crcInit | crcUpd b | crcRd | crcChk | lrcInit | lrcUpd b | lrcRd | lrcChk | hexEnc b | frStat | frRxlen | frCnt k =>
    cases h; exact .answered ..
  | hexDec c => exact execHexDec_effect h
  | frMode m => exact execFrMode_effect h
  | frConnect => exact execFrConnect_effect h
  | frDisconnect => exact execFrDisconnect_effect h
  | frTxclr => exact execFrTxclr_effect h
  | frTxpush b => exact execFrTxpush_effect h
  | frXact => exact execFrXact_effect h
  | frRxpop => exact execFrRxpop_effect h
  | evRx b => exact .received b t h
  | evTimeout => exact execEvTimeout_effect h
  | evIofail => exact execEvIofail_effect h
  | evLinkok => exact execEvLinkok_effect h
  | evLinkfail k => exact execEvLinkfail_effect h

theorem ErrorKind.code_ne_zero (kind : ErrorKind) : kind.code ≠ 0#4 := by cases kind <;> decide

/-- PH stays, or a transaction starts, or the one in flight completes or fails: no other effect writes PH. -/
theorem exec_phase {i : Instr} {s t : State} (h : exec i s = .next t) :
    t.phase = s.phase ∨ startsTransaction i s ∨
    (s.phase = .wait ∧
      ((t.done = true ∧ t.err = 0#4 ∧ ∃ b, i = .evRx b) ∨
        (t.done = false ∧ t.err ≠ 0#4 ∧ t.rxbuf = [] ∧
          ((∃ b, i = .evRx b) ∨ i = .evTimeout ∨ i = .evIofail ∨ i = .frDisconnect)))) := by
  cases exec_effect h with
  | answered | configured | popped | linkMoved => exact .inl rfl
  | started hs => exact .inr (.inl hs)
  | failed _ kind _ _ _ hp hi => exact .inr (.inr ⟨hp, .inr ⟨rfl, kind.code_ne_zero, rfl, .inr hi⟩⟩)
  | received b _ hrx =>
    cases execEvRx_next hrx with
    | goesOn ht => exact .inl (by rw [ht])
    | completes m hp _ ht => subst ht; exact .inr (.inr ⟨hp, .inl ⟨rfl, rfl, b, rfl⟩⟩)
    | fails kind e _ hp ht =>
      subst ht; exact .inr (.inr ⟨hp, .inr ⟨rfl, kind.code_ne_zero, rfl, .inl ⟨b, rfl⟩⟩⟩)

/-- Settles O56: by `exec_phase`, PH moves only where a transaction starts, from IDLE, or ends, from WAIT. -/
theorem phaseMovesOnlyByXactCompleteAndFail : Obligations.PhaseMovesOnlyByXactCompleteAndFail := by
  unfold Obligations.PhaseMovesOnlyByXactCompleteAndFail
  intro i s t h
  rcases exec_phase h with hkept | hs | ⟨hp, hend⟩
  · rw [hkept]
    exact ⟨fun hi hw => by simp [hi] at hw, fun hw hi => by simp [hw] at hi⟩
  · exact ⟨fun _ _ => hs, fun hw => by simp [hs.2.1] at hw⟩
  · exact ⟨fun hi => by simp [hp] at hi, fun _ _ => hend⟩

end Sys2Proof.Machine
end

section
/-! The receive side under the invariant: a byte is taken without a fault and leads to a state that meets it again. -/

namespace Sys2Proof.Machine

/-- A result that goes on, to a state that meets the invariant. -/
def KeepsInv (r : Result) : Prop := ∃ t, r = .next t ∧ Inv t

theorem KeepsInv.next {t : State} (h : Inv t) : KeepsInv (.next t) := ⟨t, rfl, h⟩

theorem KeepsInv.fail {s : State} {kind : ErrorKind} (h : BaseInv s) (hk : kind.code.toNat ∈ [2, 3, 4, 6, 7]) :
    KeepsInv (.next (s.fail kind)) := .next (idleInv_fail h hk).inv

theorem complete_of_two_le {m : List Byte} (s : State) (h : 2 ≤ m.length) :
    complete m s = .next (s.deliver m (exceptionBit (m.getD 1 0#8))) := by
  match m, h with
  | u :: f :: rest, _ => exact complete_cons_cons u f rest s

theorem KeepsInv.complete {s : State} {m : List Byte} (h : BaseInv s) (h2 : 2 ≤ m.length) (h258 : m.length ≤ 258) :
    KeepsInv (complete m s) := ⟨_, complete_of_two_le s h2, (idleInv_deliver h h2 h258).inv⟩

/-! RTU mode. -/

/-- The RTU receive step (44_framer_rx R176 to R179): the loop leaves a window below its `need`, finds a message of a
length `body_len` gives, or fails. -/
theorem rxRtu_keepsInv {s : State} (b : Byte) (h : WaitInv s) (hm : s.mode = .rtu) : KeepsInv (rxRtu b s) := by
  unfold rxRtu
  split
  · rename_i w iter hscan
    obtain ⟨hshort, hiter⟩ := rtuScan_waiting hscan
    obtain ⟨hnib, hhunt⟩ := h.receiver_of_not_ascii (by simp [hm])
    exact .next (WaitInv.inv
      { h with iter_lt := hiter h.iter_lt, window := windowInvariant_of_rtu hm hnib hhunt hshort })
  · rename_i m hscan
    obtain ⟨w, l, hl, hlen, rfl⟩ := rtuScan_found hscan
    obtain ⟨h2, h258⟩ := bodyLen_bounds h.config hl
    have htake : (w.take l).length = l := by rw [List.length_take]; omega
    exact .complete h.toBaseInv (by omega) (by omega)
  · exact .fail h.toBaseInv (by decide)

/-! ASCII mode. -/

/-- The end-of-frame checks (44_framer_rx R183) on a window within ACAP. -/
theorem asciiEnd_keepsInv {s : State} (h : BaseInv s) (hl : s.rxw.length ≤ 259) : KeepsInv (asciiEnd s) := by
  unfold asciiEnd
  split
  · exact .fail h (by decide)
  split
  · exact .fail h (by decide)
  dsimp only
  split
  · exact .fail h (by decide)
  · rename_i hshape
    have hknown := of_decide_eq_true (Bool.eq_true_of_not_eq_false hshape)
    refine .complete h (length_of_bodyLen hknown) ?_
    rw [List.length_take]
    omega

/-- A character of the body (44_framer_rx R181, R185): a full window fails before the next byte is stored. -/
theorem asciiBody_keepsInv {s : State} (c : Byte) (h : WaitInv s) (hm : s.mode = .ascii) (hb : s.astate = .body) :
    KeepsInv (asciiBody c s) := by
  have hl := h.ascii_length_le hm
  have hhunt : s.astate ≠ .hunt := by simp [hb]
  have hcr : s.astate ≠ .cr := by simp [hb]
  unfold asciiBody
  split
  · split
    · exact .fail h.toBaseInv (by decide)
    · exact .next (WaitInv.inv { h with window := windowInvariant_of_ascii hm hl nofun fun _ => ‹_› })
  split
  · exact .fail h.toBaseInv (by decide)
  split
  · exact .next (WaitInv.inv { h with window := windowInvariant_of_ascii hm hl (absurd · hhunt) (absurd · hcr) })
  split
  · exact .fail h.toBaseInv (by decide)
  · rename_i hfull
    refine .next (WaitInv.inv { h with window := windowInvariant_of_ascii hm ?_ (absurd · hhunt) (absurd · hcr) })
    simp only [asciiCapacity] at hfull
    simp only [List.length_append, List.length_singleton]
    omega

/-- The ASCII receive step (44_framer_rx R180 to R185). -/
theorem rxAscii_keepsInv {s : State} (c : Byte) (h : WaitInv s) (hm : s.mode = .ascii) : KeepsInv (rxAscii c s) := by
  unfold rxAscii
  split
  · exact .next (WaitInv.inv
      { h with window := windowInvariant_of_ascii hm (Nat.zero_le _) nofun nofun })
  split
  · exact .next h.inv
  · exact asciiBody_keepsInv c h hm ‹_›
  · split
    · exact asciiEnd_keepsInv h.toBaseInv (h.ascii_length_le hm)
    · exact .fail h.toBaseInv (by decide)

/-! BRIDGE mode. -/

/-- The echo checks of a byte more: the seventh byte is the command's unit, the eighth its function. -/
theorem EchoesCommand.concat {s : State} {w : List Byte} {b : Byte} (h : EchoesCommand s w)
    (hunit : w.length = 6 → some b = s.txbuf[0]?)
    (hfunction : w.length = 7 → some b = s.txbuf[1]? ∧ shapeOf s.cfg b ≠ .unknown) : EchoesCommand s (w ++ [b]) := by
  have hlen : (w ++ [b]).length = w.length + 1 := by simp
  refine ⟨fun h7 => ?_, fun h8 => ?_⟩
  · rcases Nat.lt_or_ge w.length 7 with hlt | hge
    · have hw : w.length = 6 := by omega
      rw [List.getElem?_append_right (by omega), hw]
      exact hunit hw
    · rw [List.getElem?_append_left (by omega)]
      exact h.1 hge
  · rcases Nat.lt_or_ge w.length 8 with hlt | hge
    · have hw : w.length = 7 := by omega
      rw [List.getElem?_append_right (by omega), hw]
      simpa using hfunction hw
    · rw [List.getElem?_append_left (by omega)]
      exact h.2 hge

/-- A byte more tells the length of a message only before the message is complete. -/
theorem bodyLen_concat {c : Config} {m : List Byte} {b : Byte} {l : Nat} (ha : configAllowed c)
    (h : bodyLen c (m ++ [b]) = some l) : bodyLen c m = some l ∨ m.length < l := by
  have h2 := (bodyLen_bounds ha h).1
  match m, h with
  | [], _ | [_], _ => right; simp; omega
  | [_, f], h =>
    simp only [bodyLen, List.cons_append, List.nil_append] at h ⊢
    split at h <;> simp_all
    omega
  | _ :: f :: k :: rest, h => exact .inl (by simpa [bodyLen] using h)

/-- With one byte more the bridge window has at most reached its length (44_framer_rx R192). -/
theorem length_le_of_bodyLen_bridge {s : State} {b : Byte} {l : Nat} (h : WaitInv s) (hm : s.mode = .bridge)
    (hl : bodyLen s.cfg ((s.rxw ++ [b]).drop 6) = some l) : (s.rxw ++ [b]).length ≤ 6 + l := by
  simp only [List.length_append, List.length_singleton]
  by_cases hlen : s.rxw.length < 6
  · omega
  rw [List.drop_append_of_le_length (by omega)] at hl
  rcases bodyLen_concat h.config hl with hold | hshort
  · have hbefore := h.bridge_short hm hold
    omega
  · rw [List.length_drop] at hshort
    omega

/-- The last lines of 44_framer_rx R190 on a window that has passed the echo checks and has at most reached its length. -/
theorem bridgeFinish_keepsInv {s : State} {w : List Byte} (e : Bool) (h : WaitInv s) (hm : s.mode = .bridge)
    (he : EchoesCommand s w) (hle : ∀ l, bodyLen s.cfg (w.drop 6) = some l → w.length ≤ 6 + l) :
    KeepsInv (bridgeFinish { s with rxw := w, exc := e }) := by
  obtain ⟨hnib, hhunt⟩ := h.receiver_of_not_ascii (by simp [hm])
  have waits (hlt : ∀ l, bodyLen s.cfg (w.drop 6) = some l → w.length < 6 + l) :
      Inv { s with rxw := w, exc := e } :=
    WaitInv.inv { h with window := windowInvariant_of_bridge hm hnib hhunt he hlt }
  unfold bridgeFinish
  split
  · rename_i l hl
    split
    · rename_i hfull
      obtain ⟨h2, h258⟩ := bodyLen_bounds h.config hl
      have htake : ((w.drop 6).take l).length = l := by
        rw [List.length_take, List.length_drop, show w.length = 6 + l from hfull]
        omega
      exact .complete { h.toBaseInv with } (htake.symm ▸ h2) (htake.symm ▸ h258)
    · rename_i hnot
      refine .next (waits fun k hk => lt_of_le_of_ne (hle k hk) ?_)
      obtain rfl : l = k := Option.some.inj (hl.symm.trans hk)
      exact hnot
  · rename_i hnone
    exact .next (waits fun k hk => absurd (hnone.symm.trans hk) (by simp))

theorem bridgeFinish_of_length_le {s : State} (h : s.rxw.length ≤ 6) : bridgeFinish s = .next s := by
  simp [bridgeFinish, List.drop_eq_nil_of_le h, bodyLen]

theorem setExc_eq (c : Bool) (s : State) :
    (if c then { s with exc := true } else s) = { s with exc := s.exc || c } := by
  cases c <;> simp

/-- A further byte of a bridge response that passes its echo check. -/
theorem bridgeFinish_concat_keepsInv {s : State} {b : Byte} (e : Bool) (h : WaitInv s) (hm : s.mode = .bridge)
    (hunit : s.rxw.length = 6 → some b = s.txbuf[0]?)
    (hfunction : s.rxw.length = 7 → some b = s.txbuf[1]? ∧ shapeOf s.cfg b ≠ .unknown) :
    KeepsInv (bridgeFinish { s with rxw := s.rxw ++ [b], exc := e }) :=
  bridgeFinish_keepsInv e h hm ((h.bridge_echoes hm).concat hunit hfunction)
    fun _ => length_le_of_bodyLen_bridge h hm

theorem bridgeUnit_keepsInv {s : State} (b : Byte) (h : WaitInv s) (hm : s.mode = .bridge) (hn : s.rxw.length = 6) :
    KeepsInv (bridgeUnit b { s with rxw := s.rxw ++ [b] }) := by
  have htx := h.txbuf_ge
  unfold bridgeUnit
  split
  · rename_i hnone
    have : s.txbuf.length ≤ 0 := List.getElem?_eq_none_iff.1 hnone
    omega
  rename_i unit hunit
  split
  · exact .fail { h.toBaseInv with } (by decide)
  · rename_i hecho
    obtain rfl : b = unit := Decidable.not_not.1 hecho
    exact bridgeFinish_concat_keepsInv s.exc h hm (fun _ => hunit.symm) fun h7 => by omega

theorem bridgeFunction_keepsInv {s : State} (b : Byte) (h : WaitInv s) (hm : s.mode = .bridge)
    (hn : s.rxw.length = 7) : KeepsInv (bridgeFunction b { s with rxw := s.rxw ++ [b] }) := by
  have htx := h.txbuf_ge
  unfold bridgeFunction
  rw [setExc_eq]
  dsimp only
  split
  · rename_i hnone
    have : s.txbuf.length ≤ 1 := List.getElem?_eq_none_iff.1 hnone
    omega
  rename_i function hfunction
  split
  · exact .fail { h.toBaseInv with } (by decide)
  rename_i hecho
  obtain rfl : b = function := Decidable.not_not.1 hecho
  split
  · exact .fail { h.toBaseInv with } (by decide)
  · rename_i hknown
    exact bridgeFinish_concat_keepsInv _ h hm (fun h6 => by omega) fun _ => ⟨hfunction.symm, hknown⟩

/-- The BRIDGE receive step (44_framer_rx R190 to R193), by the number of bytes received. -/
theorem rxBridge_keepsInv {s : State} (b : Byte) (h : WaitInv s) (hm : s.mode = .bridge) :
    KeepsInv (rxBridge b s) := by
  have hlen : (s.rxw ++ [b]).length = s.rxw.length + 1 := by simp
  unfold rxBridge
  dsimp only
  split
  · rename_i h6
    rw [← bridgeFinish_of_length_le (s := { s with rxw := s.rxw ++ [b] }) h6]
    exact bridgeFinish_concat_keepsInv s.exc h hm (fun _ => by omega) fun _ => by omega
  split
  · exact bridgeUnit_keepsInv b h hm (by omega)
  split
  · exact bridgeFunction_keepsInv b h hm (by omega)
  · exact bridgeFinish_concat_keepsInv s.exc h hm (fun _ => by omega) fun _ => by omega

/-- A received byte, in every phase and mode (44_framer_rx R175). -/
theorem execEvRx_keepsInv {s : State} (b : Byte) (h : Inv s) : KeepsInv (execEvRx b s) := by
  unfold execEvRx
  split
  · exact .next h
  rename_i hp
  have hw := waitInv_of_inv h hp
  split
  · exact rxRtu_keepsInv b hw ‹_›
  · exact rxAscii_keepsInv b hw ‹_›
  · exact rxBridge_keepsInv b hw ‹_›

end Sys2Proof.Machine
end

section
/-! The invariant over the whole step: every instruction's effect keeps it, and under it no instruction faults. -/

namespace Sys2Proof.Machine

/-- Every effect of an instruction keeps the invariant. -/
theorem ExecEffect.inv {i : Instr} {s t : State} (h : Inv s) (he : ExecEffect s i t) : Inv t := by
  cases he with
  | answered => exact h
  | configured _ mode txbuf as hp hl =>
    have hi := idleInv_of_inv h hp
    exact IdleInv.inv { hi with txbuf_le := hl hi.txbuf_le }
  | popped as hlt =>
    rcases inv_iff.1 h with hi | hw
    · exact IdleInv.inv { hi with rxptr_le := hlt }
    · simp [hw.rxbuf] at hlt
  | started hs => exact (waitInv_startTransaction (baseInv_of_inv h) hs).inv
  | linkMoved _ link lerr as hl hk =>
    have hi : IdleInv s := (inv_iff.1 h).resolve_right fun hw => by simp [hw.link, hw.phase] at hl
    have hlerr : lerr.toNat ∈ [0, 2, 8, 10, 11, 12] := hk.elim (· ▸ hi.lerr_known) id
    exact IdleInv.inv { hi with lerr_known := hlerr }
  | failed _ kind link tocnt as _ _ hk =>
    have hcode : kind.code.toNat ∈ [2, 3, 4, 6, 7] := by
      simp only [List.mem_cons, List.not_mem_nil, or_false] at hk
      rcases hk with rfl | rfl | rfl <;> decide
    exact IdleInv.inv { idleInv_fail (baseInv_of_inv h) hcode with }
  | received b _ hrx =>
    obtain ⟨u, hu, hinv⟩ := execEvRx_keepsInv b h
    obtain rfl : t = u := Host.Outcome.next.inj (hrx.symm.trans hu)
    exact hinv

theorem exec_inv {i : Instr} {s t : State} (h : Inv s) (he : exec i s = .next t) : Inv t :=
  (exec_effect he).inv h

/-- Settles O51: a step changes nothing, resets, answers an illegal word, or runs an instruction (`exec_inv`). -/
theorem invariantIsKeptByEveryStep : Obligations.InvariantIsKeptByEveryStep := by
  unfold Obligations.InvariantIsKeptByEveryStep
  intro s t h hstep
  cases hin : s.inputs with
  | nil => rw [step_nil hin] at hstep; cases hstep; exact h
  | cons i rest =>
    rw [step_cons hin] at hstep
    have htaken : Inv { s with inputs := rest } := h
    cases i with
    | reset => cases hstep; exact (idleInv_applyReset (s := { s with inputs := rest }) htaken.1).inv
    | word p =>
      simp only [runInput] at hstep
      split at hstep
      · exact exec_inv htaken hstep
      · cases p with
        | command cw => cases hstep; exact htaken
        | event ew => cases hstep

/-! Progress: @LINKFAIL on a reserved kind is never decoded, and the invariant excludes every fault. -/

theorem wellFormed_of_decodeLinkfail {d : Byte} {i : Instr} (h : decodeLinkfail d = .ok i) : i.wellFormed = true := by
  unfold decodeLinkfail at h
  dsimp only at h
  split at h
  · rename_i hok; cases h; exact hok.2
  · cases h

theorem wellFormed_of_decodeCommand {cw : Word} {i : Instr} (h : decodeCommand cw = .ok i) : i.wellFormed = true := by
  simp only [decodeCommand, decodeN, decodeM, decodeK] at h
  repeat' split at h
  all_goals cases h <;> rfl

theorem wellFormed_of_decodeEvent {ew : EventWord} {i : Instr} (h : decodeEvent ew = .ok i) : i.wellFormed = true := by
  simp only [decodeEvent, decodeNoData] at h
  split at h
  case h_5 => exact wellFormed_of_decodeLinkfail h
  all_goals
    repeat' split at h
    all_goals cases h <;> rfl

/-- The decoder reads only well-formed instructions (30_encoding R76). -/
theorem wellFormed_of_decode {p : PortWord} {i : Instr} (h : decode p = .ok i) : i.wellFormed = true := by
  cases p with
  | command cw => exact wellFormed_of_decodeCommand h
  | event ew => exact wellFormed_of_decodeEvent h

theorem execFrRxpop_goesOn {s : State} (h : s.rxptr ≤ s.rxbuf.length) : ∃ t, execFrRxpop s = .next t := by
  unfold execFrRxpop
  split
  · exact ⟨_, rfl⟩
  split
  · rename_i hnone
    have := List.getElem?_eq_none_iff.1 hnone
    omega
  · exact ⟨_, rfl⟩

theorem execEvLinkfail_goesOn {k : Nibble} (s : State) (h : (Instr.evLinkfail k).wellFormed = true) :
    ∃ t, execEvLinkfail k s = .next t := by
  obtain ⟨kind, hkind⟩ := Option.isSome_iff_exists.1 ((linkfailKind_isSome k).trans h)
  simp only [execEvLinkfail, hkind]
  split <;> exact ⟨_, rfl⟩

/-- Under the invariant every well-formed instruction goes on: only FR.RXPOP and @RX could fault, and only @LINKFAIL
be refused. -/
theorem exec_goesOn {i : Instr} {s : State} (h : Inv s) (hwf : i.wellFormed = true) : ∃ t, exec i s = .next t := by
  cases i with
  | frRxpop =>
    obtain ⟨-, ⟨-, ⟨-, -, hptr⟩, -⟩, -⟩ := h
    exact execFrRxpop_goesOn hptr
  | evRx b =>
    obtain ⟨t, ht, -⟩ := execEvRx_keepsInv b h
    exact ⟨t, ht⟩
  | evLinkfail k => exact execEvLinkfail_goesOn s hwf
  | crcInit | crcUpd b | crcRd | crcChk | lrcInit | lrcUpd b | lrcRd | lrcChk | hexEnc b | frStat | frRxlen | frCnt k
  | frDisconnect => exact ⟨_, rfl⟩
  | hexDec c | frMode m | frConnect | frTxclr | frTxpush b | frXact | evTimeout | evIofail | evLinkok =>
    simp only [exec, execHexDec, execFrMode, execFrConnect, execFrTxclr, execFrTxpush, execFrXact, execEvTimeout,
      execEvIofail, execEvLinkok]
    repeat' split
    all_goals exact ⟨_, rfl⟩

/-- Settles O53: a decoded instruction goes on (`exec_goesOn`), an illegal command word is answered, and the only input
left is an event word the decoder rejects. -/
theorem blockNeverStopsUnderTheInvariant : Obligations.BlockNeverStopsUnderTheInvariant := by
  unfold Obligations.BlockNeverStopsUnderTheInvariant
  intro s h
  cases hin : s.inputs with
  | nil => exact .inl ⟨s, step_nil hin⟩
  | cons i rest =>
    rw [step_cons hin]
    cases i with
    | reset => exact .inl ⟨_, rfl⟩
    | word p =>
      cases hdec : decode p with
      | ok instr =>
        have htaken : Inv { s with inputs := rest } := h
        obtain ⟨t, ht⟩ := exec_goesOn htaken (wellFormed_of_decode hdec)
        exact .inl ⟨t, by simp only [runInput, hdec, ht]⟩
      | error e =>
        cases p with
        | command cw => exact .inl ⟨_, by simp only [runInput, hdec, undecodable]; rfl⟩
        | event ew => exact .inr ⟨by simp only [runInput, hdec, undecodable], ew, rest, e, rfl, hdec⟩

end Sys2Proof.Machine
end

section
/-! How a command is answered, and what each instruction leaves of the records, the inputs and the configuration. -/

namespace Sys2Proof.Machine

/-- A command is rejected and changes nothing (60_exceptions R235), or is accepted in a state of which `P` holds: what
its writes have made of `s`. -/
inductive Answered (s : State) (P : State → Prop) : State → Prop
  | rejected (kind : ErrorKind) : Answered s P (s.reject kind)
  | accepted {u : State} {val : Word} (hu : P u) : Answered s P (u.accept val)

theorem Answered.mono {s t : State} {P Q : State → Prop} (h : Answered s P t) (hPQ : ∀ u, P u → Q u) :
    Answered s Q t := by
  cases h with
  | rejected kind => exact .rejected kind
  | accepted hu => exact .accepted (hPQ _ hu)

theorem execHexDec_answered {c : Byte} {s t : State} (h : execHexDec c s = .next t) : Answered s (· = s) t := by
  unfold execHexDec at h
  split at h
  · cases h; exact .rejected _
  · cases h; exact .accepted rfl

theorem execFrMode_answered {m : BitVec 2} {s t : State} (h : execFrMode m s = .next t) :
    Answered s (fun u => ∃ mode, u = { s with mode := mode }) t := by
  unfold execFrMode at h
  split at h
  · cases h; exact .rejected _
  split at h
  · cases h; exact .rejected _
  · cases h; exact .accepted ⟨_, rfl⟩

theorem execFrTxclr_answered {s t : State} (h : execFrTxclr s = .next t) :
    Answered s (fun u => ∃ txbuf, u = { s with txbuf := txbuf }) t := by
  unfold execFrTxclr at h
  split at h
  · cases h; exact .rejected _
  · cases h; exact .accepted ⟨_, rfl⟩

theorem execFrTxpush_answered {b : Byte} {s t : State} (h : execFrTxpush b s = .next t) :
    Answered s (fun u => ∃ txbuf, u = { s with txbuf := txbuf }) t := by
  unfold execFrTxpush at h
  split at h
  · cases h; exact .rejected _
  split at h
  · cases h; exact .rejected _
  · cases h; exact .accepted ⟨_, rfl⟩

theorem execFrRxpop_answered {s t : State} (h : execFrRxpop s = .next t) :
    Answered s (fun u => ∃ rxptr, u = { s with rxptr := rxptr }) t := by
  unfold execFrRxpop at h
  split at h
  · cases h; exact .rejected _
  split at h
  · cases h
  · cases h; exact .accepted ⟨_, rfl⟩

theorem execFrConnect_answered {s t : State} (h : execFrConnect s = .next t) :
    Answered s (fun u => ∃ link lerr, u = { s with link := link, lerr := lerr }) t := by
  unfold execFrConnect at h
  split at h <;> (cases h; exact .accepted ⟨_, _, rfl⟩)

theorem execFrXact_answered {s t : State} (h : execFrXact s = .next t) :
    Answered s (· = s.startTransaction.emit (xactFrame s)) t := by
  rcases execFrXact_next h with ⟨-, rfl⟩ | ⟨-, kind, rfl⟩
  · exact .accepted rfl
  · exact .rejected _

@[simp] theorem State.failIfBusy_answers (s : State) (kind : ErrorKind) : (s.failIfBusy kind).answers = s.answers := by
  unfold State.failIfBusy
  split <;> rfl

/-- Every command is answered once, and its writes leave the answers given before alone (60_exceptions R235). -/
theorem exec_answered {i : Instr} {s t : State} (hc : i.isCommand = true) (h : exec i s = .next t) :
    Answered s (fun u => u.answers = s.answers) t := by
  cases i with
  | crcInit | crcUpd b | crcRd | crcChk | lrcInit | lrcUpd b | lrcRd | lrcChk | hexEnc b | frStat | frRxlen | frCnt k =>
    cases h; exact .accepted rfl
  | frDisconnect => cases h; exact .accepted (State.failIfBusy_answers ..)
  | hexDec c => exact (execHexDec_answered h).mono fun | _, rfl => rfl
  | frMode m => exact (execFrMode_answered h).mono fun | _, ⟨_, rfl⟩ => rfl
  | frTxclr => exact (execFrTxclr_answered h).mono fun | _, ⟨_, rfl⟩ => rfl
  | frTxpush b => exact (execFrTxpush_answered h).mono fun | _, ⟨_, rfl⟩ => rfl
  | frRxpop => exact (execFrRxpop_answered h).mono fun | _, ⟨_, rfl⟩ => rfl
  | frConnect => exact (execFrConnect_answered h).mono fun | _, ⟨_, _, rfl⟩ => rfl
  | frXact => exact (execFrXact_answered h).mono fun | _, rfl => rfl
  | evRx | evTimeout | evIofail | evLinkok | evLinkfail => cases hc

/-- A received byte writes only the receiver's registers: every record and the configuration stay. -/
theorem execEvRx_records {b : Byte} {s t : State} (h : execEvRx b s = .next t) :
    t.lineOut = s.lineOut ∧ t.answers = s.answers ∧ t.inputs = s.inputs ∧ t.cfg = s.cfg := by
  cases execEvRx_next h with
  | goesOn ht => rw [ht]; exact ⟨rfl, rfl, rfl, rfl⟩
  | completes m _ _ ht | fails kind e _ _ ht => subst ht; exact ⟨rfl, rfl, rfl, rfl⟩

/-- An event is not answered (30_encoding R78). -/
theorem exec_event_answers {i : Instr} {s t : State} (hc : i.isCommand = false) (h : exec i s = .next t) :
    t.answers = s.answers := by
  cases i with
  | evRx b =>
    obtain ⟨-, hanswers, -, -⟩ := execEvRx_records h
    exact hanswers
  | evTimeout => simp only [exec, execEvTimeout] at h; split at h <;> (cases h; rfl)
  | evIofail =>
    simp only [exec, execEvIofail] at h
    split at h
    · cases h; exact State.failIfBusy_answers ..
    · cases h; rfl
    · cases h; rfl
  | evLinkok => simp only [exec, execEvLinkok] at h; split at h <;> (cases h; rfl)
  | evLinkfail k =>
    simp only [exec, execEvLinkfail] at h
    split at h
    · cases h
    · split at h <;> (cases h; rfl)
  | _ => cases hc

/-- No instruction takes an input or changes the configuration (10_state R37). -/
theorem exec_inputs_cfg {i : Instr} {s t : State} (h : exec i s = .next t) : t.inputs = s.inputs ∧ t.cfg = s.cfg := by
  cases exec_effect h with
  | answered | configured | popped | started | linkMoved | failed => exact ⟨rfl, rfl⟩
  | received b _ hrx =>
    obtain ⟨-, -, hinputs, hcfg⟩ := execEvRx_records hrx
    exact ⟨hinputs, hcfg⟩

theorem exec_lineOut_of_ne_frXact {i : Instr} {s t : State} (hi : i ≠ .frXact) (h : exec i s = .next t) :
    t.lineOut = s.lineOut := by
  cases exec_effect h with
  | answered | configured | popped | linkMoved | failed => rfl
  | started => exact absurd rfl hi
  | received b _ hrx =>
    obtain ⟨hlineOut, -, -, -⟩ := execEvRx_records hrx
    exact hlineOut

/-- Settles O28: FR.XACT emits where it starts a transaction and is rejected otherwise (`execFrXact_next`); no other
instruction writes LINE_OUT. -/
theorem onlyAcceptedXactEmits : Obligations.OnlyAcceptedXactEmits := by
  unfold Obligations.OnlyAcceptedXactEmits
  intro i s t h
  by_cases hi : i = .frXact
  · subst hi
    rcases execFrXact_next h with ⟨hs, rfl⟩ | ⟨hs, kind, rfl⟩
    · rw [if_pos hs]; rfl
    · rw [if_neg hs, List.append_nil]; rfl
  · have hs : ¬ startsTransaction i s := fun hs => hi hs.1
    rw [if_neg hs, List.append_nil]
    exact exec_lineOut_of_ne_frXact hi h

/-- Settles O58: each command is rejected, or accepted after the write of its one register. -/
theorem commandsChangeOnlyTheirRegister : Obligations.CommandsChangeOnlyTheirRegister := by
  unfold Obligations.CommandsChangeOnlyTheirRegister
  constructor
  · intro i s t b k hi h
    simp only [List.mem_cons, List.not_mem_nil, or_false] at hi
    rcases hi with rfl | rfl | rfl | rfl | rfl | rfl | rfl | rfl | rfl
    -- HEX.DEC is the only one of them that can be rejected.
    pick_goal 6
    · rcases execHexDec_answered h with kind | rfl <;> rfl
    all_goals cases h; rfl
  · intro s t b m
    refine ⟨?crc, ?sum, fun h => ?mode, ?txbuf, fun h => ?rxptr⟩
    case crc | sum => rintro (h | h) <;> (cases h; rfl)
    case mode => rcases execFrMode_answered h with kind | ⟨mode, rfl⟩ <;> rfl
    case txbuf =>
      rintro (h | h)
      · rcases execFrTxclr_answered h with kind | ⟨txbuf, rfl⟩ <;> rfl
      · rcases execFrTxpush_answered h with kind | ⟨txbuf, rfl⟩ <;> rfl
    case rxptr => rcases execFrRxpop_answered h with kind | ⟨rxptr, rfl⟩ <;> rfl

end Sys2Proof.Machine
end

section
/-! What one step takes and keeps, from what an input does. -/

namespace Sys2Proof.Machine

/-- A word that decodes runs its instruction (20_memory R59). -/
theorem runInput_of_decode {p : PortWord} {i : Instr} (s : State) (h : decode p = .ok i) :
    runInput (.word p) s = exec i s := by
  simp only [runInput, h]

/-- Settles O6: the step runs the input it takes (`step_cons`), which is a word that decodes. -/
theorem stepRunsTheDecodedInstruction : Obligations.StepRunsTheDecodedInstruction := by
  unfold Obligations.StepRunsTheDecodedInstruction
  intro s p rest i hin hdec
  rw [step_cons hin, runInput_of_decode _ hdec]

/-- The inputs still to come and the configuration stay, and at most one answer is given. -/
def KeepsRecords (s t : State) : Prop :=
  t.inputs = s.inputs ∧ t.cfg = s.cfg ∧ ∃ given, t.answers = s.answers ++ given ∧ given.length ≤ 1

theorem KeepsRecords.of_no_answer {s t : State} (hin : t.inputs = s.inputs) (hcfg : t.cfg = s.cfg)
    (h : t.answers = s.answers) : KeepsRecords s t := ⟨hin, hcfg, [], by simp [h], by simp⟩

theorem Answered.answers {s t : State} (h : Answered s (fun u => u.answers = s.answers) t) :
    ∃ a, t.answers = s.answers ++ [a] := by
  cases h with
  | rejected kind => exact ⟨_, rfl⟩
  | accepted hu => exact ⟨_, by rw [State.accept_answers, hu]⟩

/-- A command is answered once and an event not at all. -/
theorem exec_keepsRecords {i : Instr} {s t : State} (h : exec i s = .next t) : KeepsRecords s t := by
  obtain ⟨hinputs, hcfg⟩ := exec_inputs_cfg h
  cases hc : i.isCommand with
  | true =>
    obtain ⟨a, ha⟩ := (exec_answered hc h).answers
    exact ⟨hinputs, hcfg, [a], ha, Nat.le_refl 1⟩
  | false => exact .of_no_answer hinputs hcfg (exec_event_answers hc h)

/-- Running an input leaves the ones after it to be taken: reset (70_reset R260) gives no answer, a word that is no
instruction the one answer IllegalCommand (30_encoding R74). -/
theorem runInput_keepsRecords {i : Input} {s t : State} (h : runInput i s = .next t) : KeepsRecords s t := by
  cases i with
  | reset => cases h; exact .of_no_answer rfl rfl rfl
  | word p =>
    cases hdec : decode p with
    | ok instr => rw [runInput_of_decode s hdec] at h; exact exec_keepsRecords h
    | error e =>
      simp only [runInput, hdec] at h
      cases p with
      | command cw => cases h; exact ⟨rfl, rfl, _, rfl, Nat.le_refl 1⟩
      | event ew => cases h

/-- Settles O8: without an input nothing changes; with one, the state it is run on already has it taken
(`runInput_keepsRecords`). -/
theorem stepTakesOneInputAndKeepsTheConfiguration : Obligations.StepTakesOneInputAndKeepsTheConfiguration := by
  unfold Obligations.StepTakesOneInputAndKeepsTheConfiguration
  intro s t h
  cases hin : s.inputs with
  | nil => rw [step_nil hin] at h; cases h; exact ⟨hin, rfl, [], by simp, by simp⟩
  | cons i rest => rw [step_cons hin] at h; exact runInput_keepsRecords h

end Sys2Proof.Machine
end

section
/-! The decoder and the encoder are inverse to each other, one operand format at a time (30_encoding R71, R76). -/

namespace Sys2Proof

theorem decodeN_eq_ok {op arg : Byte} {i j : Instr} (h : decodeN op arg i = .ok j) : arg = 0#8 ∧ j = i := by
  unfold decodeN at h
  split at h <;> cases h
  exact ⟨‹_›, rfl⟩

theorem decodeNoData_eq_ok {kind : Nibble} {data : Byte} {i j : Instr} (h : decodeNoData kind data i = .ok j) :
    data = 0#8 ∧ j = i := by
  unfold decodeNoData at h
  split at h <;> cases h
  exact ⟨‹_›, rfl⟩

theorem decodeM_append (m : BitVec 2) : decodeM (0#6 ++ m) = .ok (.frMode m) := by
  revert m; decide

theorem append_mode_of_reserved_zero {arg : Byte} (h : arg.extractLsb' 2 6 = 0#6) : 0#6 ++ arg.extractLsb' 0 2 = arg := by
  revert arg; decide

theorem decodeM_eq_ok {arg : Byte} {i : Instr} (h : decodeM arg = .ok i) : ∃ m, arg = 0#6 ++ m ∧ i = .frMode m := by
  unfold decodeM at h
  split at h <;> cases h
  exact ⟨_, (append_mode_of_reserved_zero ‹_›).symm, rfl⟩

theorem decodeK_operand (k : CounterSelect) : decodeK k.operand = .ok (.frCnt k) := by
  cases k <;> rfl

theorem decodeK_eq_ok {arg : Byte} {i : Instr} (h : decodeK arg = .ok i) : ∃ k, arg = k.operand ∧ i = .frCnt k := by
  unfold decodeK at h
  split at h
  · cases h; exact ⟨.messages, ‹_›, rfl⟩
  split at h <;> cases h
  exact ⟨.timeouts, ‹_›, rfl⟩

theorem decodeLinkfail_append {k : Nibble} (h : (Instr.evLinkfail k).wellFormed = true) :
    decodeLinkfail (0#4 ++ k) = .ok (.evLinkfail k) := by
  revert k; decide

theorem append_kind_of_reserved_zero {data : Byte} (h : data.extractLsb' 4 4 = 0#4) :
    0#4 ++ data.extractLsb' 0 4 = data := by
  revert data; decide

theorem decodeLinkfail_eq_ok {data : Byte} {i : Instr} (h : decodeLinkfail data = .ok i) :
    ∃ k, data = 0#4 ++ k ∧ i = .evLinkfail k := by
  unfold decodeLinkfail at h
  dsimp only at h
  split at h <;> cases h
  rename_i hfields
  exact ⟨_, (append_kind_of_reserved_zero hfields.1).symm, rfl⟩

/-- A word's instruction is read back: the fields come apart again, and the format's operand is the one put in. -/
theorem decode_encode {i : Instr} (h : i.wellFormed = true) : decode (encode i) = .ok i := by
  cases i with
  | crcInit | crcRd | crcChk | lrcInit | lrcRd | lrcChk | frConnect | frDisconnect | frTxclr | frXact | frStat | frRxlen
  | frRxpop | evTimeout | evIofail | evLinkok => rfl
  | crcUpd b | lrcUpd b | hexEnc b | hexDec b | frTxpush b =>
    simp [encode, commandWord, decode, decodeCommand, opField_append, argField_append]
  | frMode m => simp [encode, commandWord, decode, decodeCommand, opField_append, argField_append, decodeM_append]
  | frCnt k => simp [encode, commandWord, decode, decodeCommand, opField_append, argField_append, decodeK_operand]
  | evRx b => simp [encode, eventWord, decode, decodeEvent, kindField_append, dataField_append]
  | evLinkfail k =>
    simp [encode, eventWord, decode, decodeEvent, kindField_append, dataField_append, decodeLinkfail_append h]

theorem commandWord_of_opField {cw : Word} {n : Nat} (h : (opField cw).toNat = n) :
    commandWord (BitVec.ofNat 8 n) (argField cw) = .command cw := by
  rw [← h, BitVec.ofNat_toNat, BitVec.setWidth_eq, commandWord, append_command_fields]

theorem eventWord_of_kindField {ew : EventWord} {n : Nat} (h : (kindField ew).toNat = n) :
    eventWord (BitVec.ofNat 4 n) (dataField ew) = .event ew := by
  rw [← h, BitVec.ofNat_toNat, BitVec.setWidth_eq, eventWord, append_event_fields]

theorem encode_of_decodeCommand {cw : Word} {i : Instr} (h : decodeCommand cw = .ok i) : encode i = .command cw := by
  unfold decodeCommand at h
  dsimp only at h
  split at h
  case h_2 hop | h_6 hop | h_9 hop | h_10 hop | h_15 hop => cases h; exact commandWord_of_opField hop
  case h_11 hop =>
    obtain ⟨m, harg, rfl⟩ := decodeM_eq_ok h
    rw [← commandWord_of_opField hop, harg, encode]
  case h_20 hop =>
    obtain ⟨k, harg, rfl⟩ := decodeK_eq_ok h
    rw [← commandWord_of_opField hop, harg, encode]
  case h_21 => cases h
  all_goals
    rename_i hop
    obtain ⟨harg, rfl⟩ := decodeN_eq_ok h
    rw [← commandWord_of_opField hop, harg, encode]

theorem encode_of_decodeEvent {ew : EventWord} {i : Instr} (h : decodeEvent ew = .ok i) : encode i = .event ew := by
  unfold decodeEvent at h
  dsimp only at h
  split at h
  case h_1 hkind => cases h; exact eventWord_of_kindField hkind
  case h_5 hkind =>
    obtain ⟨k, hdata, rfl⟩ := decodeLinkfail_eq_ok h
    rw [← eventWord_of_kindField hkind, hdata, encode]
  case h_6 => cases h
  all_goals
    rename_i hkind
    obtain ⟨hdata, rfl⟩ := decodeNoData_eq_ok h
    rw [← eventWord_of_kindField hkind, hdata, encode]

/-- A word that decodes is its instruction's own word: no two words have one meaning. -/
theorem encode_of_decode {p : PortWord} {i : Instr} (h : decode p = .ok i) : encode i = p := by
  cases p with
  | command cw => exact encode_of_decodeCommand h
  | event ew => exact encode_of_decodeEvent h

/-- Settles O1, format by format (`decode_encode`). -/
theorem decodeOfEncodeIsTheInstruction : Obligations.DecodeOfEncodeIsTheInstruction := by
  unfold Obligations.DecodeOfEncodeIsTheInstruction
  exact fun _ => decode_encode

/-- Settles O2: the word is rebuilt from the fields that were read (`encode_of_decode`). -/
theorem encodeOfDecodeIsTheWord : Obligations.EncodeOfDecodeIsTheWord := by
  unfold Obligations.EncodeOfDecodeIsTheWord
  exact fun _ _ h => ⟨encode_of_decode h, Machine.wellFormed_of_decode h⟩

/-- Settles O3: each of the words is the encoding of the instruction it is said to be. -/
theorem wordsWrittenInTheSpecDecode : Obligations.WordsWrittenInTheSpecDecode := by
  unfold Obligations.WordsWrittenInTheSpecDecode
  exact ⟨decode_encode (i := .crcUpd 0x31#8) rfl, decode_encode (i := .frMode 1#2) rfl,
    decode_encode (i := .evRx 0x3A#8) rfl, decode_encode (i := .evLinkfail 10#4) rfl,
    decode_encode (i := .frMode 3#2) rfl, decode_encode (i := .frCnt .timeouts) rfl,
    decode_encode (i := .frTxpush 0xFF#8) rfl, decode_encode (i := .evTimeout) rfl⟩

theorem isCommand_of_encode_command {i : Instr} {cw : Word} (h : encode i = .command cw) : i.isCommand = true := by
  cases i with
  | evRx | evTimeout | evIofail | evLinkok | evLinkfail => simp [encode, eventWord] at h
  | _ => rfl

theorem isCommand_of_encode_event {i : Instr} {ew : EventWord} (h : encode i = .event ew) : i.isCommand = false := by
  cases i with
  | evRx | evTimeout | evIofail | evLinkok | evLinkfail => rfl
  | _ => simp [encode, commandWord] at h

end Sys2Proof
end

section
/-! The rows of the opcode map (30_encoding R72) and the words they take in: a command word decodes exactly when it meets
the mask and the match of a row. -/

namespace Sys2Proof.Machine

open Sys2Proof.Laws

theorem meets_row : (i : Instr) → TableRow.Statement i
  | .crcInit => TableRow.crcInit
  | .crcUpd b => TableRow.crcUpd b
  | .crcRd => TableRow.crcRd
  | .crcChk => TableRow.crcChk
  | .lrcInit => TableRow.lrcInit
  | .lrcUpd b => TableRow.lrcUpd b
  | .lrcRd => TableRow.lrcRd
  | .lrcChk => TableRow.lrcChk
  | .hexEnc b => TableRow.hexEnc b
  | .hexDec c => TableRow.hexDec c
  | .frMode m => TableRow.frMode m
  | .frConnect => TableRow.frConnect
  | .frDisconnect => TableRow.frDisconnect
  | .frTxclr => TableRow.frTxclr
  | .frTxpush b => TableRow.frTxpush b
  | .frXact => TableRow.frXact
  | .frStat => TableRow.frStat
  | .frRxlen => TableRow.frRxlen
  | .frRxpop => TableRow.frRxpop
  | .frCnt k => TableRow.frCnt k
  | .evRx b => TableRow.evRx b
  | .evTimeout => TableRow.evTimeout
  | .evIofail => TableRow.evIofail
  | .evLinkok => TableRow.evLinkok
  | .evLinkfail k => TableRow.evLinkfail k

/-- One command of each row of the opcode map, in the map's order; a row does not depend on the operand. -/
def rowCommands : List Instr :=
  [.crcInit, .crcUpd 0#8, .crcRd, .crcChk, .lrcInit, .lrcUpd 0#8, .lrcRd, .lrcChk, .hexEnc 0#8, .hexDec 0#8, .frMode 0#2,
   .frConnect, .frDisconnect, .frTxclr, .frTxpush 0#8, .frXact, .frStat, .frRxlen, .frRxpop, .frCnt .messages]

theorem commandTable_eq_map_row : commandTable = rowCommands.map TableRow.row := rfl

theorem row_mem_commandTable {i : Instr} (h : i.isCommand = true) : TableRow.row i ∈ commandTable := by
  cases i with
  | evRx | evTimeout | evIofail | evLinkok | evLinkfail => cases h
  | _ => simp [TableRow.row, commandTable]

/-- A legal command word meets the row of its instruction. -/
theorem exists_row_of_decode {cw : Word} {i : Instr} (h : decode (.command cw) = .ok i) :
    ∃ row ∈ commandTable, cw &&& row.1 = row.2 := by
  have henc : encode i = .command cw := encode_of_decode h
  have hmeets : TableRow.number (encode i) &&& (TableRow.row i).1 = (TableRow.row i).2 := meets_row i
  rw [henc] at hmeets
  exact ⟨_, row_mem_commandTable (isCommand_of_encode_command henc), hmeets⟩

theorem fields_of_masked_eq {cw mask w : Word} (h : cw &&& mask = w) :
    opField cw &&& mask.extractLsb' 8 8 = w.extractLsb' 8 8 ∧ argField cw &&& mask.extractLsb' 0 8 = w.extractLsb' 0 8 := by
  rw [← h, BitVec.extractLsb'_and, BitVec.extractLsb'_and]
  exact ⟨rfl, rfl⟩

/-- The mask of every row takes in the whole of `op`. -/
theorem opField_mask_of_row {i : Instr} (h : i.isCommand = true) : (TableRow.row i).1.extractLsb' 8 8 = 0xFF#8 := by
  cases i with
  | evRx | evTimeout | evIofail | evLinkok | evLinkfail => cases h
  | _ => simp [TableRow.row]

theorem opField_of_meets_row {cw : Word} {i : Instr} (hc : i.isCommand = true)
    (h : cw &&& (TableRow.row i).1 = (TableRow.row i).2) : opField cw = (TableRow.row i).2.extractLsb' 8 8 := by
  obtain ⟨hop, -⟩ := fields_of_masked_eq h
  rw [opField_mask_of_row hc] at hop
  exact BitVec.and_allOnes.symm.trans hop

theorem decodeM_of_masked_zero {arg : Byte} (h : arg &&& 0xFC#8 = 0#8) : ∃ m, decodeM arg = .ok (.frMode m) := by
  have hreserved : arg.extractLsb' 2 6 = 0#6 := by revert arg; decide
  exact ⟨_, if_pos hreserved⟩

theorem decodeK_of_masked_zero {arg : Byte} (h : arg &&& 0xFE#8 = 0#8) : ∃ k, decodeK arg = .ok (.frCnt k) := by
  have hoperand : arg = 0#8 ∨ arg = 1#8 := by revert arg; decide
  rcases hoperand with rfl | rfl
  · exact ⟨.messages, rfl⟩
  · exact ⟨.timeouts, rfl⟩

/-- A word that meets a command's row decodes: `op` is the row's, and what the mask asks of `arg` is what the row's format
asks (30_encoding R71). -/
theorem decodes_of_meets_row {cw : Word} {i : Instr} (hc : i.isCommand = true)
    (h : cw &&& (TableRow.row i).1 = (TableRow.row i).2) : ∃ j, decode (.command cw) = .ok j := by
  have hop := opField_of_meets_row hc h
  have harg := (fields_of_masked_eq h).2
  cases i with
  | crcInit | crcRd | crcChk | lrcInit | lrcRd | lrcChk | frConnect | frDisconnect | frTxclr | frXact | frStat | frRxlen
  | frRxpop =>
    obtain rfl := (BitVec.and_allOnes (x := cw)).symm.trans h
    exact ⟨_, rfl⟩
  | crcUpd | lrcUpd | hexEnc | hexDec | frTxpush =>
    simp [decode, decodeCommand, hop, TableRow.row]
  | frMode =>
    obtain ⟨m, hm⟩ := decodeM_of_masked_zero (by simpa [TableRow.row] using harg)
    exact ⟨_, by simpa [decode, decodeCommand, hop, TableRow.row] using hm⟩
  | frCnt =>
    obtain ⟨k, hk⟩ := decodeK_of_masked_zero (by simpa [TableRow.row] using harg)
    exact ⟨_, by simpa [decode, decodeCommand, hop, TableRow.row] using hk⟩
  | evRx | evTimeout | evIofail | evLinkok | evLinkfail => cases hc

theorem decodes_of_row {cw : Word} {row : Word × Word} (hrow : row ∈ commandTable) (h : cw &&& row.1 = row.2) :
    ∃ i, decode (.command cw) = .ok i := by
  rw [commandTable_eq_map_row] at hrow
  obtain ⟨i, hi, rfl⟩ := List.mem_map.1 hrow
  have hc : ∀ i ∈ rowCommands, i.isCommand = true := by decide
  exact decodes_of_meets_row (hc i hi) h

theorem runInput_of_not_decode {p : PortWord} (s : State) (h : ¬ ∃ i, decode p = .ok i) :
    runInput (.word p) s = undecodable p s := by
  cases hdec : decode p with
  | ok i => exact absurd ⟨i, hdec⟩ h
  | error e => simp only [runInput, hdec]

theorem execFrMode_three {s : State} (h : s.phase = .idle) : execFrMode 3#2 s = .next (s.reject .methodNotSupported) := by
  have hmode : modeOfOperand 3#2 = none := rfl
  simp [execFrMode, busy_eq_false_iff.2 h, hmode]

/-- Settles O4: a word decodes exactly when it meets a row (`exists_row_of_decode`, `decodes_of_row`). -/
theorem illegalCommandWordsAreAnsweredAndChangeNothing : Obligations.IllegalCommandWordsAreAnsweredAndChangeNothing := by
  unfold Obligations.IllegalCommandWordsAreAnsweredAndChangeNothing
  intro s cw rest hin
  refine ⟨fun hnone => ?_, fun ⟨row, hrow, hmatch⟩ => ?_, ?_⟩
  · have hdec : ¬ ∃ i, decode (.command cw) = .ok i := fun ⟨i, hi⟩ => by
      obtain ⟨row, hrow, hmatch⟩ := exists_row_of_decode hi
      exact hnone row hrow hmatch
    rw [step_cons hin, runInput_of_not_decode _ hdec]
    rfl
  · obtain ⟨i, hi⟩ := decodes_of_row hrow hmatch
    exact ⟨i, hi, isCommand_of_encode_command (encode_of_decode hi)⟩
  · rintro rfl hidle
    have hdec : decode (.command 0x4003#16) = .ok (.frMode 3#2) := decode_encode (i := .frMode 3#2) rfl
    refine ⟨hdec, ?_⟩
    rw [stepRunsTheDecodedInstruction s _ rest _ hin hdec]
    exact execFrMode_three (s := { s with inputs := rest }) hidle

end Sys2Proof.Machine
end

section
/-! Which event words are events (30_encoding R76), and that the others are refused (R77). -/

namespace Sys2Proof.Machine

/-- An event word the environment never presents (30_encoding R77): a kind of no event, data where none is used, or a
@LINKFAIL kind outside its set. -/
def ReservedEventWord (kind : Nibble) (data : Byte) : Prop :=
  kind.toNat = 0 ∨ 6 ≤ kind.toNat ∨ (kind.toNat ∈ [2, 3, 4] ∧ data ≠ 0#8) ∨
    (kind.toNat = 5 ∧ data.toNat ∉ [2, 8, 10, 11, 12])

theorem decodeNoData_decodes_iff {kind : Nibble} {data : Byte} {i : Instr} :
    (∃ j, decodeNoData kind data i = .ok j) ↔ data = 0#8 := by
  refine ⟨fun ⟨_, h⟩ => (decodeNoData_eq_ok h).1, ?_⟩
  rintro rfl
  exact ⟨i, rfl⟩

theorem decodeLinkfail_decodes_iff {data : Byte} :
    (∃ i, decodeLinkfail data = .ok i) ↔ data.toNat ∈ [2, 8, 10, 11, 12] := by
  have hset : (data.extractLsb' 4 4 = 0#4 ∧ (Instr.evLinkfail (data.extractLsb' 0 4)).wellFormed = true) ↔
      data.toNat ∈ [2, 8, 10, 11, 12] := by revert data; decide
  rw [← hset]
  unfold decodeLinkfail
  dsimp only
  split
  · exact ⟨fun _ => ‹_›, fun _ => ⟨_, rfl⟩⟩
  · exact ⟨nofun, fun h => absurd h ‹_›⟩

theorem decodeEvent_decodes_iff {kind : Nibble} {data : Byte} :
    (∃ i, decodeEvent (kind ++ data) = .ok i) ↔ ¬ ReservedEventWord kind data := by
  simp only [decodeEvent, kindField_append, dataField_append, ReservedEventWord]
  split
  case h_1 hkind => simp [hkind]
  case h_2 hkind | h_3 hkind | h_4 hkind => simp [decodeNoData_decodes_iff, hkind]
  case h_5 hkind => simp [decodeLinkfail_decodes_iff, hkind, or_iff_not_imp_left]
  case h_6 h1 h2 h3 h4 h5 =>
    have hkind : kind.toNat = 0 ∨ 6 ≤ kind.toNat := by simp only [imp_false] at h1 h2 h3 h4 h5; omega
    rcases hkind with hkind | hkind <;> simp [hkind]

/-- Settles O5: an event word decodes exactly when it is not reserved (`decodeEvent_decodes_iff`). -/
theorem reservedEventWordsAreRefused : Obligations.ReservedEventWordsAreRefused := by
  unfold Obligations.ReservedEventWordsAreRefused
  intro s kind data rest hin
  refine ⟨fun hres => ?_, fun hlegal => ?_⟩
  · have hdec : ¬ ∃ i, decode (.event (kind ++ data)) = .ok i := fun h => decodeEvent_decodes_iff.1 h hres
    rw [step_cons hin, runInput_of_not_decode _ hdec]
    rfl
  · obtain ⟨i, hi⟩ := decodeEvent_decodes_iff.2 hlegal
    have hdec : decode (.event (kind ++ data)) = .ok i := hi
    exact ⟨i, hdec, isCommand_of_encode_event (encode_of_decode hdec)⟩

end Sys2Proof.Machine
end

section
/-! The CRC functions (40_crc16 R100, R101, R106 to R111): the pseudocode, the residue of a valid frame, and what a changed
byte does to it. -/

namespace Sys2Proof.Machine

/-- The shift steps are the iterate of one (40_crc16 R100: "repeat 8 times"). -/
theorem crcShifts_eq_iterate (n : Nat) (c : Word) : crcShifts n c = crcShift^[n] c := by
  induction n generalizing c with
  | zero => rfl
  | succ n ih => rw [crcShifts, ih, Function.iterate_succ_apply]

@[simp] theorem crc16_nil : crc16 [] = 0xFFFF#16 := rfl

/-- The register's own low byte clears it there, so the polynomial never enters (40_crc16 R110). -/
theorem crc16Step_low_byte (c : Word) : crc16Step c (c.extractLsb' 0 8) = c >>> 8 := by
  have hlow : ∀ i, i < 8 → (c ^^^ (c.extractLsb' 0 8).setWidth 16).getLsbD i = false := by
    intro i hi
    simp [hi, show i < 16 by omega]
  have hhigh : (c.extractLsb' 0 8).setWidth 16 >>> 8 = 0#16 := by
    apply BitVec.eq_of_getLsbD_eq
    intro i _
    simp
  rw [crc16Step, crcShifts_of_low_zero 8 _ hlow, BitVec.ushiftRight_xor_distrib, hhigh, BitVec.xor_zero]

/-- Settles O12: the shift steps are an iterate, and the register's own low byte shifts it (`crc16Step_low_byte`). -/
theorem crcIsComputedAsItsPseudocodeSays : Obligations.CrcIsComputedAsItsPseudocodeSays := by
  unfold Obligations.CrcIsComputedAsItsPseudocodeSays
  refine ⟨fun c b => crcShifts_eq_iterate 8 _, crc16_nil, fun s b => crc16_append s [b], crc16Step_low_byte, ?_, ?_, ?_⟩
  · decide
  · decide +kernel
  · decide

/-- Two bytes side by side are the number with the second as its low byte (40_crc16 R106). -/
theorem append_eq_or_shiftLeft (hi lo : Byte) : hi ++ lo = lo.setWidth 16 ||| (hi.setWidth 16 <<< 8) := by
  rw [BitVec.append_def, BitVec.or_comm, BitVec.shiftLeftZeroExtend_eq]
  rfl

/-- A sequence of two or more bytes is a message with two more bytes after it. -/
theorem exists_eq_append_pair {f : List Byte} (h : 2 ≤ f.length) : ∃ p lo hi, f = p ++ [lo, hi] := by
  have hlen : (f.drop (f.length - 2)).length = 2 := by rw [List.length_drop]; omega
  obtain ⟨lo, hi, hpair⟩ := List.length_eq_two.1 hlen
  exact ⟨f.take (f.length - 2), lo, hi, by rw [← hpair, List.take_append_drop]⟩

/-- The check compares the CRC of the message with the two bytes after it, low byte first (40_crc16 R106). -/
theorem crcOk_append_pair (p : List Byte) (lo hi : Byte) :
    crcOk (p ++ [lo, hi]) = true ↔ crc16 p = lo.setWidth 16 ||| (hi.setWidth 16 <<< 8) := by
  simp [crcOk, List.getD]

/-- The residue of a valid frame is zero, and of no other (40_crc16 R107). -/
theorem crcOk_iff_crc16_eq_zero {f : List Byte} (h : 2 ≤ f.length) : crcOk f = true ↔ crc16 f = 0#16 := by
  obtain ⟨p, lo, hi, rfl⟩ := exists_eq_append_pair h
  rw [crcOk_append_pair, crc16_append]
  exact (crc16Step_twice_eq_zero_iff _ lo hi).symm

/-- Settles O13: only the CRC's own two bytes bring it to zero (`crc16Step_twice_eq_zero_iff`). -/
theorem crcResidueIsZeroExactlyOnValidFrames : Obligations.CrcResidueIsZeroExactlyOnValidFrames := by
  unfold Obligations.CrcResidueIsZeroExactlyOnValidFrames
  exact fun _ => crcOk_iff_crc16_eq_zero

/-- A message with its CRC after it, low byte first, passes the check (40_crc16 R108). -/
theorem crcOk_append_crc (p : List Byte) :
    crcOk (p ++ [(crc16 p).extractLsb' 0 8, (crc16 p).extractLsb' 8 8]) = true := by
  rw [crcOk_append_pair, ← append_eq_or_shiftLeft]
  exact (append_command_fields (crc16 p)).symm

/-- Sequences that differ in one byte have different CRCs: the registers part at that byte and never meet again. -/
theorem crc16_set_injective {f : List Byte} {i : Nat} {v w : Byte} (hi : i < f.length)
    (h : crc16 (f.set i v) = crc16 (f.set i w)) : v = w := by
  simp only [List.set_eq_take_append_cons_drop, if_pos hi, crc16_append, List.foldl_cons] at h
  exact crc16Step_injective_right (crcFold_injective h)

/-- One byte changed in a frame that passes makes it fail (40_crc16 R109): the residue was zero and is so no longer. -/
theorem crcOk_set_eq_false {f : List Byte} {i : Nat} {v old : Byte} (h2 : 2 ≤ f.length) (hf : crcOk f = true)
    (hold : f[i]? = some old) (hv : v ≠ old) : crcOk (f.set i v) = false := by
  obtain ⟨hi, rfl⟩ := List.getElem?_eq_some_iff.1 hold
  rw [Bool.eq_false_iff]
  intro hset
  have hzero : crc16 f = 0#16 := (crcOk_iff_crc16_eq_zero h2).1 hf
  have hzero' : crc16 (f.set i v) = 0#16 := (crcOk_iff_crc16_eq_zero (by rwa [List.length_set])).1 hset
  have hsame : crc16 (f.set i v) = crc16 (f.set i f[i]) := by rw [hzero', List.set_getElem_self, hzero]
  exact hv (crc16_set_injective hi hsame)

/-- Settles O14: the frame passes (`crcOk_append_crc`), and a changed byte changes its residue (`crcOk_set_eq_false`). -/
theorem crcRejectsEverySingleByteChange : Obligations.CrcRejectsEverySingleByteChange := by
  unfold Obligations.CrcRejectsEverySingleByteChange
  exact fun p => ⟨crcOk_append_crc p, fun _ _ _ => crcOk_set_eq_false (by simp) (crcOk_append_crc p)⟩

end Sys2Proof.Machine
end

section
/-! A run over presented instructions, and the CRC commands (40_crc16 R102 to R105): alone, and over a whole frame. -/

namespace Sys2Proof.Machine

/-- A run whose next input is an instruction's word goes on from that instruction's result. -/
theorem run_succ_of_exec {s t : State} {i : Instr} {is : List Instr} {rest : List Input} (k : Nat)
    (hin : s.inputs = inputsOf (i :: is) ++ rest) (hwf : i.wellFormed = true)
    (h : exec i { s with inputs := inputsOf is ++ rest } = .next t) :
    Host.Core.run core (k + 1) s = Host.Core.run core k t := by
  have hstep : core.step s = .next t :=
    (stepRunsTheDecodedInstruction s (encode i) (inputsOf is ++ rest) i hin (decode_encode hwf)).trans h
  simp only [Host.Core.run, hstep]

theorem exec_crcInit (s : State) :
    exec .crcInit s = .next { s with crc := 0xFFFF#16, answers := s.answers ++ [⟨0#4, 0#16⟩] } := rfl

theorem exec_crcUpd (b : Byte) (s : State) :
    exec (.crcUpd b) s = .next { s with crc := crc16Step s.crc b, answers := s.answers ++ [⟨0#4, 0#16⟩] } := rfl

theorem exec_crcRd (s : State) : exec .crcRd s = .next { s with answers := s.answers ++ [⟨0#4, s.crc⟩] } := rfl

theorem exec_crcChk (s : State) :
    exec .crcChk s = .next { s with answers := s.answers ++ [⟨0#4, if s.crc = 0#16 then 1#16 else 0#16⟩] } := rfl

/-- The word of CRC.UPD b is its opcode's with the operand in the low byte. -/
theorem encode_crcUpd (b : Byte) : encode (.crcUpd b) = .command (0x1100#16 ||| b.setWidth 16) := by
  rw [BitVec.or_comm]
  exact congrArg PortWord.command (append_eq_or_shiftLeft 0x11#8 b)

/-- Settles O11, command by command (`exec_crcInit` to `exec_crcChk`). -/
theorem crcCommandsWriteAndAnswer : Obligations.CrcCommandsWriteAndAnswer := by
  unfold Obligations.CrcCommandsWriteAndAnswer
  intro s b
  refine ⟨exec_crcInit s, exec_crcUpd b s, exec_crcRd s, fun hzero => ?_, fun hne => ?_, rfl, encode_crcUpd b, rfl, rfl⟩
  · rw [exec_crcChk, if_pos hzero]
  · rw [exec_crcChk, if_neg hne]

/-- CRC.UPD of each byte of a sequence folds them into CRC and answers (0, 0) to each (40_crc16 R103). -/
theorem run_crcUpd (f : List Byte) {is : List Instr} {rest : List Input} (k : Nat) {s : State}
    (hin : s.inputs = inputsOf (f.map .crcUpd ++ is) ++ rest) :
    Host.Core.run core (f.length + k) s = Host.Core.run core k { s with
      crc := f.foldl crc16Step s.crc, inputs := inputsOf is ++ rest,
      answers := s.answers ++ List.replicate f.length ⟨0#4, 0#16⟩ } := by
  induction f generalizing s with
  | nil => simp [show inputsOf is ++ rest = s.inputs from hin.symm]
  | cons b f ih =>
    rw [List.length_cons, Nat.add_right_comm, run_succ_of_exec _ hin rfl (exec_crcUpd b _), ih rfl]
    simp [List.replicate_succ]

/-- Settles O15: CRC.UPD folds the frame into CRC (`run_crcUpd`), which ends at zero exactly when the frame passes
(`crcOk_iff_crc16_eq_zero`). -/
theorem crcUnitVerifiesAFedFrame : Obligations.CrcUnitVerifiesAFedFrame := by
  unfold Obligations.CrcUnitVerifiesAFedFrame
  intro s f rest h2 hin
  calc Host.Core.run core (f.length + 2) s
      = Host.Core.run core (f.length + 1) { s with
          crc := crcInitial, inputs := inputsOf (f.map .crcUpd ++ [.crcChk]) ++ rest,
          answers := s.answers ++ [⟨0#4, 0#16⟩] } := run_succ_of_exec _ hin rfl (exec_crcInit _)
    _ = Host.Core.run core 1 { s with
          crc := crc16 f, inputs := inputsOf [.crcChk] ++ rest,
          answers := s.answers ++ List.replicate (f.length + 1) ⟨0#4, 0#16⟩ } := by
        rw [run_crcUpd f 1 rfl]
        simp [crc16, List.replicate_succ]
    _ = _ := by
        rw [run_succ_of_exec 0 (is := []) rfl rfl (exec_crcChk _)]
        simp [Host.Core.run, crcOk_iff_crc16_eq_zero h2]

end Sys2Proof.Machine
end

section
/-! The LRC function (41_lrc R120, R125 to R127): the check looks at the byte sum only, so it sees every change of that sum
and nothing else. -/

namespace Sys2Proof.Machine

theorem byteSum_cons (b : Byte) (s : List Byte) : byteSum (b :: s) = b + byteSum s := by
  simpa [byteSum] using byteSum_append [b] s

/-- The byte sum is determined by the sum of the bytes' numbers modulo 256 (41_lrc R120). -/
theorem byteSum_eq_iff (b c : List Byte) :
    byteSum b = byteSum c ↔ (b.map BitVec.toNat).sum % 256 = (c.map BitVec.toNat).sum % 256 := by
  rw [← BitVec.toNat_inj, byteSum_toNat, byteSum_toNat]

theorem byteSum_eq_zero_iff (b : List Byte) : byteSum b = 0#8 ↔ (b.map BitVec.toNat).sum % 256 = 0 :=
  byteSum_eq_iff b []

theorem byteSum_eq_ofNat (b : List Byte) : byteSum b = BitVec.ofNat 8 (b.map BitVec.toNat).sum := by
  rw [← BitVec.toNat_inj, byteSum_toNat, BitVec.toNat_ofNat]

theorem byteSum_perm {b c : List Byte} (h : b.Perm c) : byteSum b = byteSum c := by
  rw [byteSum_eq_ofNat, byteSum_eq_ofNat, (h.map BitVec.toNat).sum_eq]

/-- Sequences that differ in one byte have different sums: the other bytes cancel. -/
theorem byteSum_set_injective {b : List Byte} {i : Nat} {v w : Byte} (hi : i < b.length)
    (h : byteSum (b.set i v) = byteSum (b.set i w)) : v = w := by
  simpa [List.set_eq_take_append_cons_drop, hi, byteSum_append, byteSum_cons] using h

/-- The check compares the LRC of the message with the byte after it (41_lrc R125). -/
theorem lrcOk_append_singleton (p : List Byte) (c : Byte) : lrcOk (p ++ [c]) = true ↔ lrc p = c := by
  simp [lrcOk, List.getD]

/-- The LRC byte is the one that brings the sum to zero (41_lrc R126); the empty sequence has none and fails. -/
theorem lrcOk_iff (b : List Byte) : lrcOk b = true ↔ 1 ≤ b.length ∧ byteSum b = 0#8 := by
  rcases List.eq_nil_or_concat' b with rfl | ⟨p, c, rfl⟩
  · simp [lrcOk]
  · have hsum : byteSum (p ++ [c]) = byteSum p + c := by simp [byteSum]
    rw [lrcOk_append_singleton, lrc_eq_neg, hsum, neg_eq_iff_add_eq_zero]
    simp

theorem lrcOk_iff_byteSum_eq_zero {b : List Byte} (h : 1 ≤ b.length) : lrcOk b = true ↔ byteSum b = 0#8 := by
  rw [lrcOk_iff, and_iff_right h]

/-- Settles O17: the last byte is the LRC of the others exactly when the byte sum is zero (`lrcOk_iff`). -/
theorem lrcResidueIsZeroExactlyOnValidBodies : Obligations.LrcResidueIsZeroExactlyOnValidBodies := by
  unfold Obligations.LrcResidueIsZeroExactlyOnValidBodies
  intro b h
  rw [lrcOk_iff_byteSum_eq_zero h, byteSum_eq_zero_iff]

/-- A message with its LRC after it passes the check (41_lrc R127). -/
theorem lrcOk_append_lrc (p : List Byte) : lrcOk (p ++ [lrc p]) = true :=
  (lrcOk_append_singleton p _).2 rfl

/-- One byte changed in a body that passes makes it fail (41_lrc R127): the sum was zero and is so no longer. -/
theorem lrcOk_set_eq_false {b : List Byte} {i : Nat} {v old : Byte} (hb : lrcOk b = true) (hold : b[i]? = some old)
    (hv : v ≠ old) : lrcOk (b.set i v) = false := by
  obtain ⟨hi, rfl⟩ := List.getElem?_eq_some_iff.1 hold
  rw [Bool.eq_false_iff]
  intro hset
  obtain ⟨-, hzero⟩ := (lrcOk_iff b).1 hb
  obtain ⟨-, hzero'⟩ := (lrcOk_iff (b.set i v)).1 hset
  have hsame : byteSum (b.set i v) = byteSum (b.set i b[i]) := by rw [hzero', List.set_getElem_self, hzero]
  exact hv (byteSum_set_injective hi hsame)

/-- The check sees a sequence's length only as empty or not, and its bytes only through their sum (41_lrc R127). -/
theorem lrcOk_congr {b c : List Byte} (hlen : 1 ≤ b.length ↔ 1 ≤ c.length) (hsum : byteSum b = byteSum c) :
    lrcOk b = lrcOk c := by
  rw [Bool.eq_iff_iff, lrcOk_iff, lrcOk_iff, hlen, hsum]

/-- Settles O18: the message passes (`lrcOk_append_lrc`), a changed byte changes its sum (`lrcOk_set_eq_false`), and the
sum is all the check sees (`lrcOk_congr`). -/
theorem lrcRejectsEverySingleByteChange : Obligations.LrcRejectsEverySingleByteChange := by
  unfold Obligations.LrcRejectsEverySingleByteChange
  refine ⟨fun p => ⟨lrcOk_append_lrc p, fun _ _ _ => lrcOk_set_eq_false (lrcOk_append_lrc p)⟩, ?_, ?_⟩
  · intro b c hb hc hsum
    exact lrcOk_congr (iff_of_true hb hc) ((byteSum_eq_iff b c).2 hsum)
  · intro b c hperm
    exact lrcOk_congr (by rw [hperm.length_eq]) (byteSum_perm hperm)

end Sys2Proof.Machine
end

section
/-! The LRC commands (41_lrc R121 to R124): alone, and over a whole body. -/

namespace Sys2Proof.Machine

theorem exec_lrcInit (s : State) :
    exec .lrcInit s = .next { s with sum := 0#8, answers := s.answers ++ [⟨0#4, 0#16⟩] } := rfl

theorem exec_lrcUpd (b : Byte) (s : State) :
    exec (.lrcUpd b) s = .next { s with sum := s.sum + b, answers := s.answers ++ [⟨0#4, 0#16⟩] } := rfl

theorem exec_lrcRd (s : State) :
    exec .lrcRd s = .next { s with answers := s.answers ++ [⟨0#4, (negateSum s.sum).setWidth 16⟩] } := rfl

theorem exec_lrcChk (s : State) :
    exec .lrcChk s = .next { s with answers := s.answers ++ [⟨0#4, if s.sum = 0#8 then 1#16 else 0#16⟩] } := rfl

/-- Eight bits of sum, the carry lost (41_lrc R122). -/
theorem add_eq_ofNat_mod (t b : Byte) : t + b = BitVec.ofNat 8 ((t.toNat + b.toNat) % 256) := by
  rw [← BitVec.toNat_inj, BitVec.toNat_add, BitVec.toNat_ofNat, Nat.mod_mod]

/-- The answer of LRC.RD: the two's complement in the low byte, zero in the high byte (41_lrc R123). -/
theorem negateSum_setWidth (t : Byte) :
    (negateSum t).setWidth 16 = BitVec.ofNat 16 ((256 - t.toNat) % 256) := by
  rw [← BitVec.toNat_inj, negateSum, BitVec.toNat_setWidth, BitVec.toNat_ofNat, BitVec.toNat_ofNat]

/-- The word of LRC.UPD b is its opcode's with the operand in the low byte. -/
theorem encode_lrcUpd (b : Byte) : encode (.lrcUpd b) = .command (0x2100#16 ||| b.setWidth 16) := by
  rw [BitVec.or_comm]
  exact congrArg PortWord.command (append_eq_or_shiftLeft 0x21#8 b)

/-- LRC.UPD of each byte of a sequence adds them to SUM and answers (0, 0) to each (41_lrc R122). -/
theorem run_lrcUpd (b : List Byte) {is : List Instr} {rest : List Input} (k : Nat) {s : State}
    (hin : s.inputs = inputsOf (b.map .lrcUpd ++ is) ++ rest) :
    Host.Core.run core (b.length + k) s = Host.Core.run core k { s with
      sum := s.sum + byteSum b, inputs := inputsOf is ++ rest,
      answers := s.answers ++ List.replicate b.length ⟨0#4, 0#16⟩ } := by
  induction b generalizing s with
  | nil => simp [byteSum, show inputsOf is ++ rest = s.inputs from hin.symm]
  | cons c b ih =>
    rw [List.length_cons, Nat.add_right_comm, run_succ_of_exec _ hin rfl (exec_lrcUpd c _), ih rfl, byteSum_cons]
    simp [List.replicate_succ, BitVec.add_assoc]

/-- Settles O19: LRC.UPD adds the body up in SUM (`run_lrcUpd`), which ends at zero exactly when the body passes
(`lrcOk_iff_byteSum_eq_zero`). -/
theorem lrcUnitVerifiesAFedBody : Obligations.LrcUnitVerifiesAFedBody := by
  unfold Obligations.LrcUnitVerifiesAFedBody
  intro s b rest h1 hin
  rw [← byteSum_eq_ofNat]
  calc Host.Core.run core (b.length + 2) s
      = Host.Core.run core (b.length + 1) { s with
          sum := 0#8, inputs := inputsOf (b.map .lrcUpd ++ [.lrcChk]) ++ rest,
          answers := s.answers ++ [⟨0#4, 0#16⟩] } := run_succ_of_exec _ hin rfl (exec_lrcInit _)
    _ = Host.Core.run core 1 { s with
          sum := byteSum b, inputs := inputsOf [.lrcChk] ++ rest,
          answers := s.answers ++ List.replicate (b.length + 1) ⟨0#4, 0#16⟩ } := by
        rw [run_lrcUpd b 1 rfl]
        simp [List.replicate_succ]
    _ = _ := by
        rw [run_succ_of_exec 0 (is := []) rfl rfl (exec_lrcChk _)]
        simp [Host.Core.run, lrcOk_iff_byteSum_eq_zero h1]

/-- Settles O16, command by command (`exec_lrcInit` to `exec_lrcChk`). -/
theorem lrcCommandsWriteAndAnswer : Obligations.LrcCommandsWriteAndAnswer := by
  unfold Obligations.LrcCommandsWriteAndAnswer
  intro s b
  refine ⟨exec_lrcInit s, ?_, ?_, fun hzero => ?_, fun hne => ?_, rfl, encode_lrcUpd b, rfl, rfl⟩
  · rw [exec_lrcUpd, add_eq_ofNat_mod]
  · rw [exec_lrcRd, negateSum_setWidth]
  · rw [exec_lrcChk, if_pos hzero]
  · rw [exec_lrcChk, if_neg hne]

end Sys2Proof.Machine
end

section
/-! The hex codec (42_hex R130 to R135): the characters by their values, the two commands, and the round trip. -/

namespace Sys2Proof.Machine

theorem hexEncode_of_le_nine {n : Nibble} (h : n.toNat ≤ 9) : hexEncode n = BitVec.ofNat 8 (0x30 + n.toNat) := by
  rw [hexEncode, if_pos h, BitVec.ofNat_add, BitVec.ofNat_toNat]

theorem hexEncode_of_ten_le {n : Nibble} (h : 10 ≤ n.toNat) :
    hexEncode n = BitVec.ofNat 8 (0x41 + (n.toNat - 10)) := by
  have hsub : n.setWidth 8 - 10#8 = BitVec.ofNat 8 (n.toNat - 10) := by bv_omega
  rw [hexEncode, if_neg (by omega), hsub, BitVec.ofNat_add]

/-- A byte that encodes no nibble is outside the alphabet (42_hex R131). -/
theorem hexDecode_eq_none {c : Byte} (h : ∀ n : Nibble, hexEncode n ≠ c) : hexDecode c = none :=
  Option.eq_none_iff_forall_ne_some.2 fun n hn => h n (hexEncode_of_hexDecode hn)

/-- A command word is its opcode in the high byte with the operand in the low byte (30_encoding R70). -/
theorem commandWord_eq_or (op arg : Byte) :
    commandWord op arg = .command ((op.setWidth 16 <<< 8) ||| arg.setWidth 16) := by
  rw [commandWord, append_eq_or_shiftLeft, BitVec.or_comm]

/-- HEX.ENC answers the two characters side by side (42_hex R133). -/
theorem exec_hexEnc (b : Byte) (s : State) : exec (.hexEnc b) s =
    .next { s with answers := s.answers ++ [⟨0#4, hexEncode (highNibble b) ++ hexEncode (lowNibble b)⟩] } := by
  rw [append_eq_or_shiftLeft, BitVec.or_comm]
  rfl

theorem exec_hexDec_of_some {c : Byte} {n : Nibble} (s : State) (h : hexDecode c = some n) :
    exec (.hexDec c) s = .next { s with answers := s.answers ++ [⟨0#4, n.setWidth 16⟩] } := by
  simp only [exec, execHexDec, h]
  rfl

theorem exec_hexDec_of_none {c : Byte} (s : State) (h : hexDecode c = none) :
    exec (.hexDec c) s = .next { s with answers := s.answers ++ [⟨6#4, 0#16⟩] } := by
  simp only [exec, execHexDec, h]
  rfl

/-- Settles O21: the decoder inverts the encoder (`hexDecode_hexEncode`) and accepts nothing else (`hexDecode_eq_none`). -/
theorem hexDecAcceptsExactlyTheAlphabet : Obligations.HexDecAcceptsExactlyTheAlphabet := by
  unfold Obligations.HexDecAcceptsExactlyTheAlphabet
  intro s c
  refine ⟨commandWord_eq_or 0x31#8 c, ?_, fun hnone => exec_hexDec_of_none s (hexDecode_eq_none hnone)⟩
  rintro n rfl
  exact exec_hexDec_of_some s (hexDecode_hexEncode n)

/-- The two characters of a byte decode to it (42_hex R132). -/
theorem unhex_hexEncode_nibbles (b : Byte) :
    unhex (hexEncode (highNibble b)) (hexEncode (lowNibble b)) = some b := by
  simp only [unhex, hexDecode_hexEncode, joinNibbles_nibbles]

/-- Decoding pair by pair inverts the encoder on every byte sequence (42_hex R135). -/
theorem unhexPairs_hexPairs (s : List Byte) : unhexPairs (hexPairs s) = some s := by
  induction s with
  | nil => rfl
  | cons b s ih => simp only [hexPairs_cons, unhexPairs, unhex_hexEncode_nibbles, ih]

theorem hexPairs_length (s : List Byte) : (hexPairs s).length = 2 * s.length := by
  induction s with
  | nil => rfl
  | cons b s ih => simp only [hexPairs_cons, List.length_cons, ih, Nat.mul_add]

/-- Settles O22, by induction on the byte sequence (`unhexPairs_hexPairs`, `hexPairs_length`). -/
theorem hexTextDecodesToItsBytes : Obligations.HexTextDecodesToItsBytes := by
  unfold Obligations.HexTextDecodesToItsBytes
  exact fun s => ⟨unhexPairs_hexPairs s, hexPairs_length s⟩

/-- Settles O20: the characters by their values (`hexEncode_of_le_nine`, `hexEncode_of_ten_le`), and the command's answer
(`exec_hexEnc`). -/
theorem hexEncAnswersTheTwoCharacters : Obligations.HexEncAnswersTheTwoCharacters := by
  unfold Obligations.HexEncAnswersTheTwoCharacters
  exact ⟨fun _ => ⟨hexEncode_of_le_nine, hexEncode_of_ten_le⟩,
    fun s b => ⟨commandWord_eq_or 0x30#8 b, exec_hexEnc b s⟩⟩

end Sys2Proof.Machine
end

section
/-! The transmit commands (43_framer_tx R141 to R148): their rejections, their writes, and the counters of FR.XACT. -/

namespace Sys2Proof.Machine

theorem modeOfOperand_code (mode : Mode) : modeOfOperand mode.code = some mode := by cases mode <;> rfl

/-- The operand of format M fills `arg` with zeros (30_encoding R71). -/
theorem encode_frMode (m : BitVec 2) : encode (.frMode m) = .command (0x4000#16 ||| m.setWidth 16) := by
  revert m; decide

section
variable {s : State} (h : s.phase = .wait)
include h

theorem exec_frMode_of_wait (m : BitVec 2) : exec (.frMode m) s = .next (s.reject .busy) :=
  if_pos (busy_eq_true_iff.2 h)

theorem exec_frTxclr_of_wait : exec .frTxclr s = .next (s.reject .busy) := if_pos (busy_eq_true_iff.2 h)

theorem exec_frTxpush_of_wait (b : Byte) : exec (.frTxpush b) s = .next (s.reject .busy) :=
  if_pos (busy_eq_true_iff.2 h)

theorem exec_frXact_of_wait : exec .frXact s = .next (s.reject .busy) := if_pos (busy_eq_true_iff.2 h)

end

section
variable {s : State} (h : s.phase = .idle)
include h

theorem exec_frMode_of_idle (mode : Mode) :
    exec (.frMode mode.code) s = .next ({ s with mode := mode }.accept 0#16) := by
  simp [exec, execFrMode, busy_eq_false_iff.2 h, modeOfOperand_code]

theorem exec_frTxclr_of_idle : exec .frTxclr s = .next ({ s with txbuf := [] }.accept 0#16) := by
  simp [exec, execFrTxclr, busy_eq_false_iff.2 h]

theorem exec_frTxpush_of_full (b : Byte) (hfull : s.txbuf.length = txCapacity) :
    exec (.frTxpush b) s = .next (s.reject .invalidDataLength) := by
  simp [exec, execFrTxpush, busy_eq_false_iff.2 h, hfull]

theorem exec_frTxpush_of_not_full (b : Byte) (hfull : s.txbuf.length ≠ txCapacity) :
    exec (.frTxpush b) s =
      .next ({ s with txbuf := s.txbuf ++ [b] }.accept (BitVec.ofNat 16 (s.txbuf.length + 1))) := by
  simp [exec, execFrTxpush, busy_eq_false_iff.2 h, hfull]

theorem exec_frXact_of_not_connected (hl : s.link ≠ .connected) :
    exec .frXact s = .next (s.reject .notConnected) := by
  simp [exec, execFrXact, busy_eq_false_iff.2 h, hl]

theorem exec_frXact_of_short (hl : s.link = .connected) (hlen : s.txbuf.length < 2) :
    exec .frXact s = .next (s.reject .invalidDataLength) := by
  simp [exec, execFrXact, busy_eq_false_iff.2 h, hl, hlen]

/-- An FR.XACT that passes its checks starts the transaction (43_framer_tx R146). -/
theorem exec_frXact_of_checked (hl : s.link = .connected) (hlen : 2 ≤ s.txbuf.length) :
    exec .frXact s =
      .next ((s.startTransaction.emit (xactFrame s)).accept (BitVec.ofNat 16 (xactFrame s).length)) := by
  simp [exec, execFrXact, busy_eq_false_iff.2 h, hl, Nat.not_lt.2 hlen]

end

/-- Settles O23: Busy first, then the mode number names a mode (`exec_frMode_of_idle`) or is 3 (`execFrMode_three`). -/
theorem frModeSelectsTheFormat : Obligations.FrModeSelectsTheFormat := by
  unfold Obligations.FrModeSelectsTheFormat
  intro s m
  refine ⟨encode_frMode m, fun hw => exec_frMode_of_wait hw m, ?_, ?_⟩
  · rintro hi rfl
    exact execFrMode_three hi
  · rintro hi mode rfl
    exact exec_frMode_of_idle hi mode

/-- Settles O24: Busy in WAIT; in IDLE FR.TXCLR is accepted, and FR.TXPUSH while TXBUF is not full. -/
theorem transmitBufferCommands : Obligations.TransmitBufferCommands := by
  unfold Obligations.TransmitBufferCommands
  intro s b
  exact ⟨rfl, commandWord_eq_or 0x44#8 b, fun hw => ⟨exec_frTxclr_of_wait hw, exec_frTxpush_of_wait hw b⟩,
    exec_frTxclr_of_idle, fun hi => exec_frTxpush_of_full hi b, fun hi => exec_frTxpush_of_not_full hi b⟩

/-- Settles O25, check by check. -/
theorem frXactChecksInOrder : Obligations.FrXactChecksInOrder := by
  unfold Obligations.FrXactChecksInOrder
  exact fun _ => ⟨exec_frXact_of_wait, exec_frXact_of_not_connected, exec_frXact_of_short⟩

/-- The 16-bit counters count modulo 65536 (43_framer_tx R147, R148). -/
theorem add_one_eq_ofNat_mod (w : Word) : w + 1#16 = BitVec.ofNat 16 ((w.toNat + 1) % 65536) := by
  rw [← BitVec.toNat_inj, BitVec.toNat_add, BitVec.toNat_ofNat, BitVec.toNat_ofNat, Nat.mod_mod]

/-- Settles O26: the checks passed (`exec_frXact_of_checked`), only the id and the frame depend on the mode. -/
theorem frXactEmitsTheFrameAndWaits : Obligations.FrXactEmitsTheFrameAndWaits := by
  unfold Obligations.FrXactEmitsTheFrameAndWaits
  intro s hi hl hlen
  rw [exec_frXact_of_checked hi hl hlen]
  dsimp only
  rw [← add_one_eq_ofNat_mod, ← add_one_eq_ofNat_mod]
  refine ⟨fun hm => ?_, fun hm => ?_, fun hm => ?_⟩ <;>
    simp [State.startTransaction, State.emit, State.accept, State.resp, xactFrame, nextTxid, encFrame, hm]

theorem exec_counters_of_ne_frXact {i : Instr} {s t : State} (hi : i ≠ .frXact) (h : exec i s = .next t) :
    t.txid = s.txid ∧ t.msgcnt = s.msgcnt := by
  cases exec_effect h with
  | answered | configured | popped | linkMoved | failed => exact ⟨rfl, rfl⟩
  | started => exact absurd rfl hi
  | received b _ hrx =>
    cases execEvRx_next hrx with
    | goesOn ht => rw [ht]; exact ⟨rfl, rfl⟩
    | completes m _ _ ht | fails kind e _ _ ht => subst ht; exact ⟨rfl, rfl⟩

/-- Settles O27: FR.XACT counts where it starts a transaction and is rejected otherwise (`execFrXact_next`); no other
instruction writes TXID or MSGCNT. -/
theorem txidAndMsgcntMoveOnlyByAcceptedXact : Obligations.TxidAndMsgcntMoveOnlyByAcceptedXact := by
  unfold Obligations.TxidAndMsgcntMoveOnlyByAcceptedXact
  intro i s t h
  by_cases hi : i = .frXact
  · subst hi
    rcases execFrXact_next h with ⟨hs, rfl⟩ | ⟨hs, kind, rfl⟩
    · rw [if_pos hs]
      exact ⟨if_congr (and_iff_right hs).symm rfl rfl, rfl⟩
    · rw [if_neg hs, if_neg fun hb => hs hb.1]
      exact ⟨rfl, rfl⟩
  · have hs : ¬ startsTransaction i s := fun hs => hi hs.1
    rw [if_neg hs, if_neg fun hb => hs hb.1]
    exact exec_counters_of_ne_frXact hi h

/-- Settles O59: the writes of an accepted FR.XACT, the three things a received byte can do (`execEvRx_next`), and
`fail` on a @TIMEOUT. -/
theorem transactionsLeaveTheOtherRegistersAlone : Obligations.TransactionsLeaveTheOtherRegistersAlone := by
  unfold Obligations.TransactionsLeaveTheOtherRegistersAlone
  intro s t b
  refine ⟨fun h => ?xact, fun h => ?rx, fun h => ?timeout⟩
  case xact => rcases execFrXact_answered h with kind | rfl <;> exact ⟨rfl, rfl, rfl, rfl, rfl, rfl, rfl, rfl, rfl⟩
  case rx =>
    cases execEvRx_next h with
    | goesOn ht =>
      obtain ⟨rxw, nib, iter, astate, exc, rfl⟩ : ∃ rxw nib iter astate exc,
          t = { s with rxw := rxw, nib := nib, iter := iter, astate := astate, exc := exc } := ⟨_, _, _, _, _, ht⟩
      rfl
    | completes m _ _ ht | fails kind e _ _ ht => subst ht; rfl
  case timeout =>
    simp only [exec, execEvTimeout] at h
    split at h <;> (cases h; rfl)

end Sys2Proof.Machine
end

section
/-! The three wire formats (43_framer_tx R149 to R152): their bytes, their lengths and the places of the delimiters. -/

namespace Sys2Proof.Machine

theorem encRtu_length (p : List Byte) : (encRtu p).length = p.length + 2 := by simp [encRtu]

theorem encBridge_length (t : Word) (p : List Byte) : (encBridge t p).length = p.length + 6 := by
  simp [encBridge]

/-- The text of an ASCII frame is the hex pairs of the message and of its LRC, between the delimiters. -/
theorem encAscii_eq (p : List Byte) :
    encAscii p = [colon] ++ hexPairs (p ++ [lrc p]) ++ [carriageReturn, lineFeed] := by
  simp [encAscii, hexPairs]

theorem encAscii_length (p : List Byte) : (encAscii p).length = 2 * p.length + 5 := by
  simp [encAscii_eq, hexPairs_length, Nat.mul_add]

theorem highByte_ofNat (n : Nat) : highByte (BitVec.ofNat 16 n) = BitVec.ofNat 8 (n / 256) := by
  rw [← BitVec.toNat_inj, highByte, BitVec.extractLsb'_toNat, BitVec.toNat_ofNat, BitVec.toNat_ofNat,
    Nat.shiftRight_eq_div_pow]
  omega

theorem lowByte_ofNat (n : Nat) : lowByte (BitVec.ofNat 16 n) = BitVec.ofNat 8 (n % 256) := by
  rw [← BitVec.toNat_inj, lowByte, BitVec.extractLsb'_toNat, BitVec.toNat_ofNat, BitVec.toNat_ofNat,
    Nat.shiftRight_zero]
  omega

/-- The length field of a bridge frame, high byte first (43_framer_tx R151). -/
theorem encBridge_eq (t : Word) (p : List Byte) :
    encBridge t p = [t.extractLsb' 8 8, t.extractLsb' 0 8, 0#8, 0#8, BitVec.ofNat 8 (p.length / 256),
      BitVec.ofNat 8 (p.length % 256)] ++ p := by
  rw [encBridge, highByte_ofNat, lowByte_ofNat]
  rfl

/-- No delimiter occurs in a hex text (43_framer_tx R150). -/
theorem ne_delimiter_of_mem_hexPairs {s : List Byte} {c : Byte} (h : c ∈ hexPairs s) :
    c ≠ colon ∧ c ≠ carriageReturn ∧ c ≠ lineFeed := by
  obtain ⟨b, -, hc⟩ := List.mem_flatMap.1 h
  simp only [hexPair, List.mem_cons, List.not_mem_nil, or_false] at hc
  rcases hc with rfl | rfl <;> exact hexEncode_ne_delimiter _

/-- The places of an ASCII frame: the start delimiter, the text, and the two bytes of the end delimiter. -/
theorem getElem?_encAscii {p : List Byte} {i : Nat} {c : Byte} (h : (encAscii p)[i]? = some c) :
    (i = 0 ∧ c = colon) ∨ (0 < i ∧ i < 2 * p.length + 3 ∧ c ∈ hexPairs (p ++ [lrc p])) ∨
    (i = 2 * p.length + 3 ∧ c = carriageReturn) ∨ (i = 2 * p.length + 4 ∧ c = lineFeed) := by
  have hlen : (hexPairs (p ++ [lrc p])).length = 2 * p.length + 2 := by simp [hexPairs_length, Nat.mul_add]
  rw [encAscii_eq, List.append_assoc, List.singleton_append] at h
  rcases i with _ | j
  · exact .inl ⟨rfl, by simpa using h.symm⟩
  rw [List.getElem?_cons_succ] at h
  rcases Nat.lt_or_ge j (2 * p.length + 2) with hlt | hge
  · rw [List.getElem?_append_left (by omega)] at h
    exact .inr (.inl ⟨by omega, by omega, List.mem_of_getElem? h⟩)
  · obtain ⟨k, rfl⟩ := Nat.exists_eq_add_of_le hge
    rw [List.getElem?_append_right (by omega), hlen, Nat.add_sub_cancel_left] at h
    rcases k with _ | _ | k
    · exact .inr (.inr (.inl ⟨rfl, by simpa using h.symm⟩))
    · exact .inr (.inr (.inr ⟨rfl, by simpa using h.symm⟩))
    · simp at h

/-- Each delimiter stands at its own place of an ASCII frame and nowhere else. -/
theorem delimiter_places {p : List Byte} {i : Nat} {c : Byte} (h : (encAscii p)[i]? = some c) :
    (c = colon ↔ i = 0) ∧ (c = carriageReturn ↔ i = 2 * p.length + 3) ∧ (c = lineFeed ↔ i = 2 * p.length + 4) := by
  rcases getElem?_encAscii h with ⟨rfl, rfl⟩ | ⟨hpos, hlt, hc⟩ | ⟨rfl, rfl⟩ | ⟨rfl, rfl⟩
  · simp [colon, carriageReturn, lineFeed]
  · obtain ⟨hcolon, hcr, hlf⟩ := ne_delimiter_of_mem_hexPairs hc
    exact ⟨iff_of_false hcolon (by omega), iff_of_false hcr (by omega), iff_of_false hlf (by omega)⟩
  · simp [colon, carriageReturn, lineFeed]
  · simp [colon, carriageReturn, lineFeed]

/-- Settles O29: the formats' bytes and lengths, and the delimiters' places (`delimiter_places`). -/
theorem framesHaveTheBytesOfTheirFormats : Obligations.FramesHaveTheBytesOfTheirFormats := by
  unfold Obligations.FramesHaveTheBytesOfTheirFormats
  refine ⟨fun t p _ hle => ⟨rfl, encAscii_eq p, encBridge_eq t p, ?_, ?_, ?_⟩, by decide,
    fun p i c => delimiter_places⟩
  · rw [encRtu_length]; omega
  · rw [encAscii_length]; omega
  · rw [encBridge_length]; omega

end Sys2Proof.Machine
end

section
/-! Delivery of an RTU frame (44_framer_rx R176, R177): a proper front of the frame waits, the whole frame passes. -/

namespace Sys2Proof.Machine

theorem bodyLen_of_shapeOk {c : Config} {m : List Byte} (h : shapeOk c m = true) : bodyLen c m = some m.length :=
  of_decide_eq_true h

theorem shape_known_of_bodyLen {c : Config} {m : List Byte} {l : Nat} (h : bodyLen c m = some l) :
    m[1]?.map (shapeOf c) ≠ some .unknown := by
  match m, h with
  | _ :: f :: _, h =>
    intro hunknown
    simp only [List.getElem?_cons_succ, List.getElem?_cons_zero, Option.map_some, Option.some.injEq] at hunknown
    simp [bodyLen, hunknown] at h

/-- The front of a message of known length, other bytes following it or not, tells that length or is of at most two
bytes: its class is that of the message. -/
theorem bodyLen_of_prefix {c : Config} {m w x : List Byte} {l : Nat} (hm : bodyLen c m = some l) (h : w <+: m ++ x) :
    bodyLen c w = some l ∨ (bodyLen c w = none ∧ w.length ≤ 2) := by
  obtain ⟨y, hy⟩ := h
  have hframe : bodyLen c (w ++ y) = some l := hy ▸ bodyLen_append hm x
  cases hw : bodyLen c w with
  | some k => exact .inl (by rw [← hframe, bodyLen_append hw y])
  | none =>
    refine .inr ⟨rfl, (bodyLen_eq_none hw).elim id fun hunknown => by_contra fun hlong => ?_⟩
    rw [← List.getElem?_append_left (l₂ := y) (by omega)] at hunknown
    exact shape_known_of_bodyLen hframe hunknown

/-- A proper front of a frame is too short for its `need` (44_framer_rx R176). -/
theorem length_lt_rtuNeed_of_prefix {c : Config} {m w x : List Byte} (hm : bodyLen c m = some m.length)
    (h : w <+: m ++ x) (hlen : w.length < m.length + 2) : w.length < rtuNeed c w := by
  rcases bodyLen_of_prefix hm h with hl | ⟨hnone, hshort⟩
  · simpa [rtuNeed, hl] using hlen
  · simp only [rtuNeed, hnone, minRtu]
    omega

theorem exec_evRx_rtu_waiting {s : State} {b : Byte} (hp : s.phase = .wait) (hm : s.mode = .rtu)
    (hshort : (s.rxw ++ [b]).length < rtuNeed s.cfg (s.rxw ++ [b])) :
    exec (.evRx b) s = .next { s with rxw := s.rxw ++ [b] } := by
  rw [evRx_rtu hp hm]
  simp only [rxRtu, rtuScan_short hshort]

theorem exec_evRx_rtu_found {s : State} {b : Byte} {m : List Byte} (hp : s.phase = .wait) (hm : s.mode = .rtu)
    (hfound : rtuScan s.cfg (s.rxw ++ [b]) s.iter = .found m) : exec (.evRx b) s = complete m s := by
  rw [evRx_rtu hp hm]
  simp only [rxRtu, hfound]

/-- Bytes that never fill the window up to its `need` are stored, one after the other. -/
theorem run_evRx_rtu_waiting (u : List Byte) {is : List Instr} {rest : List Input} (k : Nat) {s : State}
    (hp : s.phase = .wait) (hm : s.mode = .rtu) (hshort : ∀ w, w <+: s.rxw ++ u → w.length < rtuNeed s.cfg w)
    (hin : s.inputs = inputsOf (u.map .evRx ++ is) ++ rest) :
    Host.Core.run core (u.length + k) s =
      Host.Core.run core k { s with rxw := s.rxw ++ u, inputs := inputsOf is ++ rest } := by
  induction u generalizing s with
  | nil => simp [show inputsOf is ++ rest = s.inputs from hin.symm]
  | cons b u ih =>
    have hstore := exec_evRx_rtu_waiting (s := { s with inputs := inputsOf (u.map .evRx ++ is) ++ rest }) hp hm
      (hshort (s.rxw ++ [b]) ⟨u, by simp⟩)
    rw [List.length_cons, Nat.add_right_comm, run_succ_of_exec _ hin rfl hstore,
      ih (s := { s with rxw := s.rxw ++ [b], inputs := inputsOf (u.map .evRx ++ is) ++ rest }) hp hm
        (by simpa using hshort) rfl]
    simp

/-- A window that holds the whole frame passes the checks (44_framer_rx R177). -/
theorem rtuScan_encRtu {c : Config} {m : List Byte} (n : Nat) (hm : bodyLen c m = some m.length) :
    rtuScan c (encRtu m) n = .found m := by
  have hl : bodyLen c (encRtu m) = some m.length := bodyLen_append hm _
  have hlen : (encRtu m).length = m.length + 2 := encRtu_length m
  have hmsg : rtuMessage c (encRtu m) = some m := by
    have hcrc : crcOk (encRtu m) = true := crcOk_append_crc m
    have htake : (encRtu m).take m.length = m := List.take_left
    simp only [rtuMessage, hl, ← hlen, List.take_length, hcrc, htake, if_true]
  have hneed : rtuNeed c (encRtu m) = (encRtu m).length := by simp only [rtuNeed, hl, hlen]
  cases hf : encRtu m with
  | nil => simp [hf] at hlen
  | cons b rest => rw [rtuScan_long (hf ▸ hneed.le), ← hf, hmsg]

/-- Settles O36: the bytes before the last one wait (`run_evRx_rtu_waiting`), and with the last one the window holds
the frame (`rtuScan_encRtu`). -/
theorem rtuFrameOfAMessageIsDelivered : Obligations.RtuFrameOfAMessageIsDelivered := by
  unfold Obligations.RtuFrameOfAMessageIsDelivered
  intro s m rest hp hm hw hok hin
  have hknown : bodyLen s.cfg m = some m.length := bodyLen_of_shapeOk hok
  obtain ⟨w, b, hframe⟩ : ∃ w b, encRtu m = w ++ [b] := ⟨m ++ [lowByte (crc16 m)], highByte (crc16 m), by simp [encRtu]⟩
  have hlen : (encRtu m).length = w.length + 1 := by simp [hframe]
  have hshort : ∀ v, v <+: s.rxw ++ w → v.length < rtuNeed s.cfg v := by
    intro v hpre
    rw [hw, List.nil_append] at hpre
    have hle : v.length ≤ w.length := hpre.length_le
    have hfront : v <+: encRtu m := hframe ▸ hpre.trans (List.prefix_append w [b])
    exact length_lt_rtuNeed_of_prefix hknown hfront (by rw [encRtu_length] at hlen; omega)
  have hdelivered (t : State) (htp : t.phase = .wait) (htm : t.mode = .rtu) (hcfg : t.cfg = s.cfg) (hrxw : t.rxw = w) :
      exec (.evRx b) t = .next (t.deliver m (exceptionBit (m.getD 1 0#8))) := by
    rw [exec_evRx_rtu_found htp htm (by rw [hcfg, hrxw, ← hframe]; exact rtuScan_encRtu _ hknown)]
    exact complete_of_two_le t (length_of_bodyLen hknown)
  rw [hframe, List.map_append] at hin
  calc Host.Core.run core (encRtu m).length s
      = Host.Core.run core (w.length + 1) s := by rw [hlen]
    _ = Host.Core.run core 1 { s with rxw := s.rxw ++ w, inputs := inputsOf [.evRx b] ++ rest } :=
        run_evRx_rtu_waiting w 1 hp hm hshort hin
    _ = _ := run_succ_of_exec 0 (is := []) rfl rfl (hdelivered _ hp hm rfl (by rw [hw]; rfl))

end Sys2Proof.Machine
end

section
/-! Delivery of an ASCII frame (44_framer_rx R180 to R184): `:` restarts, every hex pair stores its byte, CR LF ends. -/

namespace Sys2Proof.Machine

section
variable {s : State} (hp : s.phase = .wait) (hm : s.mode = .ascii)
include hp hm

theorem exec_evRx_colon : exec (.evRx colon) s = .next { s with astate := .body, rxw := [], nib := none } :=
  (evRx_ascii hp hm).trans (if_pos rfl)

/-- A hex character between the delimiters is the body's (44_framer_rx R181). -/
theorem exec_evRx_hexEncode (n : Nibble) (hb : s.astate = .body) :
    exec (.evRx (hexEncode n)) s = asciiBody (hexEncode n) s := by
  obtain ⟨hcolon, -, -⟩ := hexEncode_ne_delimiter n
  rw [evRx_ascii hp hm]
  simp only [rxAscii, hcolon, hb, if_false]

theorem exec_evRx_first_digit (n : Nibble) (hb : s.astate = .body) (hn : s.nib = none) :
    exec (.evRx (hexEncode n)) s = .next { s with nib := some n } := by
  obtain ⟨-, hcr, -⟩ := hexEncode_ne_delimiter n
  rw [exec_evRx_hexEncode hp hm n hb]
  simp only [asciiBody, hcr, if_false, hexDecode_hexEncode, hn]

theorem exec_evRx_second_digit {h : Nibble} (n : Nibble) (hb : s.astate = .body) (hn : s.nib = some h)
    (hroom : s.rxw.length < asciiCapacity) :
    exec (.evRx (hexEncode n)) s = .next { s with rxw := s.rxw ++ [joinNibbles h n], nib := none } := by
  obtain ⟨-, hcr, -⟩ := hexEncode_ne_delimiter n
  rw [exec_evRx_hexEncode hp hm n hb]
  simp only [asciiBody, hcr, if_false, hexDecode_hexEncode, hn, hroom.ne]

theorem exec_evRx_carriageReturn (hb : s.astate = .body) (hn : s.nib = none) :
    exec (.evRx carriageReturn) s = .next { s with astate := .cr } := by
  have hcolon : carriageReturn ≠ colon := by decide
  rw [evRx_ascii hp hm]
  simp only [rxAscii, asciiBody, hcolon, hb, hn, if_false, if_true]

theorem exec_evRx_lineFeed (hcr : s.astate = .cr) : exec (.evRx lineFeed) s = asciiEnd s := by
  have hcolon : lineFeed ≠ colon := by decide
  rw [evRx_ascii hp hm]
  simp only [rxAscii, hcolon, hcr, if_false, if_true]

end

/-- A window of a message of known shape and its LRC passes the checks of 44_framer_rx R183. -/
theorem asciiEnd_of_shapeOk {s : State} {m : List Byte} (hw : s.rxw = m ++ [lrc m]) (hok : shapeOk s.cfg m = true) :
    asciiEnd s = complete m s := by
  have htake : s.rxw.take (s.rxw.length - 1) = m := by simp [hw]
  have hlrc : lrcOk s.rxw = true := hw ▸ lrcOk_append_lrc m
  have hne : s.rxw.length ≠ 0 := by simp [hw]
  simp [asciiEnd, htake, hlrc, hne, hok]

/-- The characters of a text are taken two by two: each pair stores the byte it encodes. -/
theorem run_evRx_hexPairs (u : List Byte) {is : List Instr} {rest : List Input} (k : Nat) {s : State}
    (hp : s.phase = .wait) (hm : s.mode = .ascii) (hb : s.astate = .body) (hn : s.nib = none)
    (hroom : s.rxw.length + u.length ≤ asciiCapacity)
    (hin : s.inputs = inputsOf ((hexPairs u).map .evRx ++ is) ++ rest) :
    Host.Core.run core ((hexPairs u).length + k) s =
      Host.Core.run core k { s with rxw := s.rxw ++ u, inputs := inputsOf is ++ rest } := by
  induction u generalizing s with
  | nil => simp [hexPairs, show inputsOf is ++ rest = s.inputs from hin.symm]
  | cons b u ih =>
    rw [List.length_cons] at hroom
    have hfirst := exec_evRx_first_digit
      (s := { s with inputs := inputsOf (.evRx (hexEncode (lowNibble b)) :: ((hexPairs u).map .evRx ++ is)) ++ rest })
      hp hm (highNibble b) hb hn
    have hsecond := exec_evRx_second_digit
      (s := { s with nib := some (highNibble b), inputs := inputsOf ((hexPairs u).map .evRx ++ is) ++ rest })
      hp hm (lowNibble b) hb rfl (show s.rxw.length < asciiCapacity by omega)
    rw [joinNibbles_nibbles] at hsecond
    rw [hexPairs_cons, List.length_cons, List.length_cons, Nat.add_right_comm, Nat.add_right_comm _ 1 k,
      run_succ_of_exec _ hin rfl hfirst, run_succ_of_exec _ rfl rfl hsecond,
      ih (s := { s with rxw := s.rxw ++ [b], nib := none, inputs := inputsOf ((hexPairs u).map .evRx ++ is) ++ rest })
        hp hm hb rfl (by simp; omega) rfl]
    simp [hn]

/-- Settles O39: `:` clears the window, the text fills it with the message and its LRC (`run_evRx_hexPairs`), and after
CR the LF delivers the message (`asciiEnd_of_shapeOk`). -/
theorem asciiFrameOfAMessageIsDelivered : Obligations.AsciiFrameOfAMessageIsDelivered := by
  unfold Obligations.AsciiFrameOfAMessageIsDelivered
  intro s m rest hp hm hle hok hin
  have hfull : (m ++ [lrc m]).length ≤ asciiCapacity := by simp [asciiCapacity]; omega
  have hdelivered (t : State) (htp : t.phase = .wait) (htm : t.mode = .ascii) (hcfg : t.cfg = s.cfg) (hcr : t.astate = .cr)
      (hrxw : t.rxw = m ++ [lrc m]) :
      exec (.evRx lineFeed) t = .next (t.deliver m (exceptionBit (m.getD 1 0#8))) := by
    rw [exec_evRx_lineFeed htp htm hcr, asciiEnd_of_shapeOk hrxw (hcfg ▸ hok)]
    exact complete_of_two_le t (length_of_bodyLen (bodyLen_of_shapeOk hok))
  have hlen : (encAscii m).length = (hexPairs (m ++ [lrc m])).length + 2 + 1 := by simp [encAscii_eq]
  rw [encAscii_eq, List.append_assoc, List.singleton_append, List.map_cons, List.map_append] at hin
  calc Host.Core.run core (encAscii m).length s
      = Host.Core.run core ((hexPairs (m ++ [lrc m])).length + 2) { s with
          astate := .body, rxw := [], nib := none,
          inputs := inputsOf ((hexPairs (m ++ [lrc m])).map .evRx ++ [.evRx carriageReturn, .evRx lineFeed]) ++ rest } := by
        rw [hlen]
        exact run_succ_of_exec _ hin rfl (exec_evRx_colon hp hm)
    _ = Host.Core.run core 2 { s with
          astate := .body, rxw := m ++ [lrc m], nib := none,
          inputs := inputsOf [.evRx carriageReturn, .evRx lineFeed] ++ rest } :=
        run_evRx_hexPairs (m ++ [lrc m]) 2 hp hm rfl rfl (by simpa using hfull) rfl
    _ = Host.Core.run core 1 { s with
          astate := .cr, rxw := m ++ [lrc m], nib := none, inputs := inputsOf [.evRx lineFeed] ++ rest } :=
        run_succ_of_exec 1 rfl rfl (exec_evRx_carriageReturn hp hm rfl rfl)
    _ = _ := run_succ_of_exec 0 (is := []) rfl rfl (hdelivered _ hp hm rfl rfl rfl)

end Sys2Proof.Machine
end

section
/-! The framer works without the registers CRC and SUM (43_framer_tx R153): with other values in them every instruction
outside the checksum units does the same and leaves them alone. -/

namespace Sys2Proof.Machine

/-- The state with other values in the checksum registers. -/
def State.withSums (c : Word) (m : Byte) (s : State) : State := { s with crc := c, sum := m }

/-- An operation does the same whatever CRC and SUM hold, and leaves them alone. -/
def IgnoresSums (f : State → Result) : Prop :=
  ∀ c m s, f (s.withSums c m) = mapNext (State.withSums c m) (f s)

/-! How an operation is put together: its next state, a test, a message delivered. A next state or a test that does not
look at CRC and SUM is found by `rfl`. -/

theorem IgnoresSums.next {f : State → State}
    (h : ∀ c m s, f (s.withSums c m) = (f s).withSums c m := by intros; rfl) : IgnoresSums fun s => .next (f s) :=
  fun c m s => congrArg Host.Outcome.next (h c m s)

theorem IgnoresSums.ite {p : State → Prop} [∀ s, Decidable (p s)] {f g : State → Result}
    (hf : IgnoresSums f) (hg : IgnoresSums g) (hp : ∀ c m s, p (s.withSums c m) ↔ p s := by intros; rfl) :
    IgnoresSums fun s => if p s then f s else g s := by
  intro c m s
  dsimp only
  by_cases h : p s
  · rw [if_pos h, if_pos ((hp c m s).2 h), hf]
  · rw [if_neg h, if_neg (mt (hp c m s).1 h), hg]

theorem complete_ignoresSums (msg : List Byte) : IgnoresSums (complete msg) := by
  intro c m s
  unfold complete
  split <;> rfl

/-! The receive side. -/

theorem rxRtu_ignoresSums (b : Byte) : IgnoresSums (rxRtu b) := by
  intro c m s
  dsimp only [rxRtu, State.withSums]
  split
  · rfl
  · exact complete_ignoresSums _ c m s
  · rfl

theorem asciiEnd_ignoresSums : IgnoresSums asciiEnd :=
  .ite .next <| .ite .next <| .ite .next fun c m s => complete_ignoresSums (s.rxw.take (s.rxw.length - 1)) c m s

theorem asciiBody_ignoresSums (b : Byte) : IgnoresSums (asciiBody b) := by
  refine .ite (fun c m s => ?cr) (fun c m s => ?digit) <;> dsimp only [State.withSums]
  case cr => split <;> rfl
  case digit =>
    split
    · rfl
    split
    · rfl
    · by_cases hfull : s.rxw.length = asciiCapacity
      · rw [if_pos hfull, if_pos hfull]; rfl
      · rw [if_neg hfull, if_neg hfull]; rfl

theorem rxAscii_ignoresSums (b : Byte) : IgnoresSums (rxAscii b) := by
  refine .ite .next fun c m s => ?_
  dsimp only [State.withSums]
  split
  · rfl
  · exact asciiBody_ignoresSums b c m s
  · by_cases hb : b = lineFeed
    · rw [if_pos hb, if_pos hb]; exact asciiEnd_ignoresSums c m s
    · rw [if_neg hb, if_neg hb]; rfl

theorem bridgeFinish_ignoresSums : IgnoresSums bridgeFinish := by
  intro c m s
  dsimp only [bridgeFinish, State.withSums]
  split
  · rename_i l _
    by_cases hlen : s.rxw.length = 6 + l
    · rw [if_pos hlen, if_pos hlen]; exact complete_ignoresSums _ c m s
    · rw [if_neg hlen, if_neg hlen]; rfl
  · rfl

theorem bridgeUnit_ignoresSums (b : Byte) : IgnoresSums (bridgeUnit b) := by
  intro c m s
  dsimp only [bridgeUnit, State.withSums]
  split
  · rfl
  · rename_i unit _
    exact IgnoresSums.ite (p := fun _ => b ≠ unit) .next bridgeFinish_ignoresSums (fun _ _ _ => .rfl) c m s

theorem bridgeFunction_ignoresSums (b : Byte) : IgnoresSums (bridgeFunction b) := by
  intro c m s
  simp only [bridgeFunction, setExc_eq]
  dsimp only [State.withSums]
  split
  · rfl
  rename_i function _
  by_cases hecho : b = function
  · rw [if_neg (not_not.2 hecho), if_neg (not_not.2 hecho)]
    exact IgnoresSums.ite (p := fun s => shapeOf s.cfg b = .unknown) .next bridgeFinish_ignoresSums (fun _ _ _ => .rfl)
      c m { s with exc := s.exc || exceptionBit b }
  · rw [if_pos hecho, if_pos hecho]; rfl

theorem rxBridge_ignoresSums (b : Byte) : IgnoresSums (rxBridge b) := by
  have hrx : IgnoresSums fun s =>
      if s.rxw.length ≤ 6 then .next s
      else if s.rxw.length = 7 then bridgeUnit b s
      else if s.rxw.length = 8 then bridgeFunction b s
      else bridgeFinish s :=
    .ite .next <| .ite (bridgeUnit_ignoresSums b) <| .ite (bridgeFunction_ignoresSums b) bridgeFinish_ignoresSums
  exact fun c m s => hrx c m { s with rxw := s.rxw ++ [b] }

theorem execEvRx_ignoresSums (b : Byte) : IgnoresSums (execEvRx b) := by
  intro c m s
  dsimp only [execEvRx, State.withSums]
  split
  · rfl
  split
  · exact rxRtu_ignoresSums b c m s
  · exact rxAscii_ignoresSums b c m s
  · exact rxBridge_ignoresSums b c m s

/-! The other instructions. -/

theorem failIfBusy_withSums (kind : ErrorKind) (c : Word) (m : Byte) (s : State) :
    (s.withSums c m).failIfBusy kind = (s.failIfBusy kind).withSums c m := by
  cases hp : s.phase with
  | idle => rw [failIfBusy_of_idle kind hp, failIfBusy_of_idle (s := s.withSums c m) kind hp]
  | wait => rw [failIfBusy_of_wait kind hp, failIfBusy_of_wait (s := s.withSums c m) kind hp]; rfl

theorem exec_ignoresSums {i : Instr} (h : isChecksum i = false) : IgnoresSums (exec i) := by
  cases i with
  | crcInit | crcUpd | crcRd | crcChk | lrcInit | lrcUpd | lrcRd | lrcChk => cases h
  | evRx b => exact execEvRx_ignoresSums b
  | hexEnc | frStat | frRxlen | frCnt => exact .next
  | frTxclr => exact .ite .next .next
  | frTxpush => exact .ite .next <| .ite .next .next
  | frXact => exact .ite .next <| .ite .next <| .ite .next .next
  | frDisconnect => exact .next fun c m s => by rw [failIfBusy_withSums]; rfl
  | frMode | frRxpop =>
    refine .ite .next fun c m s => ?_
    dsimp only [State.withSums]
    split <;> rfl
  | hexDec | frConnect | evLinkok | evTimeout =>
    intro c m s
    dsimp only [exec, execHexDec, execFrConnect, execEvLinkok, execEvTimeout, State.withSums]
    split <;> rfl
  | evLinkfail =>
    intro c m s
    dsimp only [exec, execEvLinkfail, State.withSums]
    split
    · rfl
    · split <;> rfl
  | evIofail =>
    intro c m s
    simp only [exec, execEvIofail, failIfBusy_withSums]
    dsimp only [State.withSums]
    split <;> rfl

theorem exec_checksum {i : Instr} (s : State) (h : isChecksum i = true) : ∃ val crc sum,
    exec i s = .next { s with crc := crc, sum := sum, answers := s.answers ++ [⟨0#4, val⟩] } := by
  cases i with
  | crcInit | crcUpd | crcRd | crcChk | lrcInit | lrcUpd | lrcRd | lrcChk => exact ⟨_, _, _, rfl⟩
  | _ => cases h

/-- Settles O31: outside the checksum units nothing looks at CRC and SUM (`exec_ignoresSums`), within them every command
is accepted (`exec_checksum`), and the hex commands' answers are functions of the operand. -/
theorem framerAndChecksumUnitsAreIndependent : Obligations.FramerAndChecksumUnitsAreIndependent := by
  unfold Obligations.FramerAndChecksumUnitsAreIndependent
  refine ⟨fun i s c m h => exec_ignoresSums h c m s, fun i s => exec_checksum s, fun b => ⟨_, exec_hexEnc b⟩, fun d => ?_⟩
  cases hd : hexDecode d with
  | none => exact ⟨⟨6#4, 0#16⟩, (by decide : 6#4 ≠ 13#4), fun s => exec_hexDec_of_none s hd⟩
  | some n => exact ⟨⟨0#4, n.setWidth 16⟩, (by decide : 0#4 ≠ 13#4), fun s => exec_hexDec_of_some s hd⟩

end Sys2Proof.Machine
end

section
/-! Response lengths (44_framer_rx R172 to R174): `body_len` by the class of the function byte, and the classes of
DEFAULT_SHAPE. -/

namespace Sys2Proof.Machine

section
variable {c : Config} {f : Byte}

theorem bodyLen_of_fixed {n : Nat} (u : Byte) (rest : List Byte) (h : shapeOf c f = .fixed n) :
    bodyLen c (u :: f :: rest) = some n := by
  simp only [bodyLen, h]

/-- Of a counted response the length is known from the third byte on. -/
theorem bodyLen_of_counted (u k : Byte) (rest : List Byte) (h : shapeOf c f = .counted) :
    bodyLen c [u, f] = none ∧ bodyLen c (u :: f :: k :: rest) = some (3 + k.toNat) := by
  simp only [bodyLen, h, and_self]

theorem bodyLen_of_unknown (u : Byte) (rest : List Byte) (h : shapeOf c f = .unknown) :
    bodyLen c (u :: f :: rest) = none := by
  simp only [bodyLen, h]

end

theorem shapeOk_iff {c : Config} {m : List Byte} : shapeOk c m = true ↔ bodyLen c m = some m.length :=
  decide_eq_true_iff

/-- The classes of DEFAULT_SHAPE (44_framer_rx R172). -/
theorem lookupShape_defaultShape (f : Byte) : lookupShape defaultShape f =
    if f.toNat ∈ [0x01, 0x02, 0x03, 0x04, 0x0C, 0x11] then .counted
    else if f.toNat ∈ [0x05, 0x06, 0x0B, 0x0F, 0x10] then .fixed 6
    else if f.toNat = 0x07 ∨ 0x80 ≤ f.toNat then .fixed 3
    else .unknown := by
  revert f; decide

/-- Settles O30: `body_len` class by class, its bounds (`bodyLen_bounds`), and the rows of DEFAULT_SHAPE
(`lookupShape_defaultShape`). -/
theorem responseLengthsFollowTheShape : Obligations.ResponseLengthsFollowTheShape := by
  unfold Obligations.ResponseLengthsFollowTheShape
  refine ⟨fun c u f k rest => ?lengths, fun c m l => bodyLen_bounds, fun c m => shapeOk_iff, fun c f hrows => ?classes⟩
  case lengths =>
    exact ⟨rfl, rfl, fun n => bodyLen_of_fixed u rest, bodyLen_of_counted u k rest, bodyLen_of_unknown u rest⟩
  case classes => rw [shapeOf, hrows, lookupShape_defaultShape]

end Sys2Proof.Machine
end

section
/-! The end of a transaction (44_framer_rx R195, R197), where a received byte goes (R175), and the read-back commands
(R198 to R201). -/

namespace Sys2Proof.Machine

/-- Settles O33, by `complete_of_two_le`. -/
theorem completeDeliversTheMessage : Obligations.CompleteDeliversTheMessage := by
  unfold Obligations.CompleteDeliversTheMessage
  exact fun s m h => complete_of_two_le s h

/-- An event word is its kind above its data (30_encoding R75). -/
theorem encode_evRx (b : Byte) : encode (.evRx b) = .event (0x100#12 ||| b.setWidth 12) := by
  revert b; decide

theorem exec_evRx_of_idle {s : State} (b : Byte) (h : s.phase = .idle) : exec (.evRx b) s = .next s := by
  simp only [exec, execEvRx, h]

/-- Settles O34: a byte outside a transaction is lost (`exec_evRx_of_idle`), another goes where MODE says. -/
theorem receivedByteGoesToTheReceiveStepOfTheMode : Obligations.ReceivedByteGoesToTheReceiveStepOfTheMode := by
  unfold Obligations.ReceivedByteGoesToTheReceiveStepOfTheMode
  exact fun s b => ⟨encode_evRx b, exec_evRx_of_idle b, evRx_rtu, evRx_ascii, evRx_bridge⟩

theorem exec_evTimeout_of_wait {s : State} (h : s.phase = .wait) :
    exec .evTimeout s = .next { s.fail .responseTimeout with tocnt := s.tocnt + 1#16 } := by
  simp only [exec, execEvTimeout, h]
  rfl

theorem exec_evTimeout_of_idle {s : State} (h : s.phase = .idle) : exec .evTimeout s = .next s := by
  simp only [exec, execEvTimeout, h]

/-- Settles O42, phase by phase; TOCNT counts modulo 65536 (`add_one_eq_ofNat_mod`). -/
theorem timeoutFailsTheTransaction : Obligations.TimeoutFailsTheTransaction := by
  unfold Obligations.TimeoutFailsTheTransaction
  refine fun s => ⟨fun hw => ?_, exec_evTimeout_of_idle, rfl⟩
  rw [exec_evTimeout_of_wait hw, add_one_eq_ofNat_mod]

theorem exec_frStat (s : State) : exec .frStat s = .next { s with answers := s.answers ++ [⟨0#4, s.status⟩] } := rfl

theorem exec_frRxlen (s : State) : exec .frRxlen s =
    .next { s with answers := s.answers ++ [⟨0#4, BitVec.ofNat 16 s.rxbuf.length⟩] } := rfl

theorem exec_frCnt (k : CounterSelect) (s : State) :
    exec (.frCnt k) s = .next { s with answers := s.answers ++ [⟨0#4, counterOf k s⟩] } := rfl

/-- Nothing is left to read once RXPTR is at the end of RXBUF (44_framer_rx R200). -/
theorem exec_frRxpop_of_read_out {s : State} (h : s.rxptr = s.rxbuf.length) :
    exec .frRxpop s = .next { s with answers := s.answers ++ [⟨7#4, 0#16⟩] } := if_pos h

theorem exec_frRxpop_of_some {s : State} {v : Byte} (h : s.rxbuf[s.rxptr]? = some v) : exec .frRxpop s =
    .next { s with rxptr := s.rxptr + 1, answers := s.answers ++ [⟨0#4, v.setWidth 16⟩] } := by
  have hlt : s.rxptr < s.rxbuf.length := (List.getElem?_eq_some_iff.1 h).1
  simp only [exec, execFrRxpop, hlt.ne, if_false, h]
  rfl

/-- Settles O45, command by command. -/
theorem readBackCommandsAnswer : Obligations.ReadBackCommandsAnswer := by
  unfold Obligations.ReadBackCommandsAnswer
  exact fun s => ⟨exec_frRxlen s, exec_frRxpop_of_read_out, fun v => exec_frRxpop_of_some, exec_frCnt .messages s,
    exec_frCnt .timeouts s, rfl, rfl, rfl, rfl⟩

/-- FR.RXPOP once for each byte left answers those bytes in order (44_framer_rx R200). -/
theorem run_frRxpop (left : List Byte) {rest : List Input} {s : State} (hleft : s.rxbuf.drop s.rxptr = left)
    (hin : s.inputs = inputsOf (List.replicate left.length .frRxpop) ++ rest) :
    Host.Core.run core left.length s = .next { s with
      rxptr := s.rxptr + left.length, inputs := rest,
      answers := s.answers ++ left.map fun v => ⟨0#4, v.setWidth 16⟩ } := by
  induction left generalizing s with
  | nil => simp [Host.Core.run, show rest = s.inputs from hin.symm]
  | cons v left ih =>
    have hv : s.rxbuf[s.rxptr]? = some v := by simp [← List.head?_drop, hleft]
    have hnext : s.rxbuf.drop (s.rxptr + 1) = left := by simp [← List.tail_drop, hleft]
    have hpop := exec_frRxpop_of_some
      (s := { s with inputs := inputsOf (List.replicate left.length .frRxpop) ++ rest }) hv
    rw [List.length_cons, run_succ_of_exec (is := List.replicate left.length .frRxpop) _ hin rfl hpop, ih hnext rfl]
    simp [Nat.add_assoc, Nat.add_comm 1]

/-- Settles O46: `run_frRxpop` over all the bytes RXPTR has not passed. -/
theorem rxpopDrainsTheResponseInOrder : Obligations.RxpopDrainsTheResponseInOrder := by
  unfold Obligations.RxpopDrainsTheResponseInOrder
  intro s rest hle hin
  have hlen : (s.rxbuf.drop s.rxptr).length = s.rxbuf.length - s.rxptr := List.length_drop
  rw [← hlen] at hin ⊢
  rw [run_frRxpop _ rfl hin, hlen, Nat.add_sub_cancel' hle]

end Sys2Proof.Machine
end

section
/-! STATUS field by field (10_state R34), and FR.STAT, which answers it (44_framer_rx R198). -/

namespace Sys2Proof.Machine

theorem status_flags (s : State) : s.status.getLsbD 0 = s.busy ∧ s.status.getLsbD 1 = s.done ∧
    s.status.getLsbD 2 = s.exc ∧ s.status.getLsbD 3 = false := by
  simp [State.status, flagWord]

/-- Above the flags each field has bits of its own, so it is read back bit by bit. -/
theorem status_fields (s : State) : s.status.extractLsb' 4 2 = s.link.code ∧ s.status.extractLsb' 6 2 = s.mode.code ∧
    s.status.extractLsb' 8 4 = s.err ∧ s.status.extractLsb' 12 4 = s.lerr := by
  refine ⟨?link, ?mode, ?err, ?lerr⟩
  all_goals
    apply BitVec.eq_of_getLsbD_eq
    intro i hi
    interval_cases i <;> simp [State.status, flagWord]

/-- Settles O44: the answer is STATUS (`exec_frStat`), read by `status_flags` and `status_fields`. -/
theorem frStatAnswersTheStatusFields : Obligations.FrStatAnswersTheStatusFields := by
  unfold Obligations.FrStatAnswersTheStatusFields
  refine ⟨rfl, fun s => ⟨s.status, exec_frStat s, ?_⟩⟩
  obtain ⟨hbusy, hdone, hexc, hzero⟩ := status_flags s
  obtain ⟨hlink, hmode, herr, hlerr⟩ := status_fields s
  exact ⟨hbusy, hdone, hexc, hzero, hlink, hmode, herr, hlerr, rfl, rfl⟩

end Sys2Proof.Machine
end

section
/-! The ASCII receive step (44_framer_rx R180 to R185), sub-state by sub-state, and its end-of-frame checks (R183). -/

namespace Sys2Proof.Machine

/-- A hex character is no delimiter (42_hex R131). -/
theorem ne_delimiter_of_hexDecode {c : Byte} {v : Nibble} (h : hexDecode c = some v) :
    c ≠ colon ∧ c ≠ carriageReturn ∧ c ≠ lineFeed := by
  rw [← hexEncode_of_hexDecode h]
  exact hexEncode_ne_delimiter v

section
variable {s : State} {c : Byte} (hp : s.phase = .wait) (hm : s.mode = .ascii)
include hp hm

theorem exec_evRx_of_hunt (hc : c ≠ colon) (hh : s.astate = .hunt) : exec (.evRx c) s = .next s := by
  rw [evRx_ascii hp hm]
  simp only [rxAscii, hc, hh, if_false]

theorem exec_evRx_of_body (hc : c ≠ colon) (hb : s.astate = .body) : exec (.evRx c) s = asciiBody c s := by
  rw [evRx_ascii hp hm]
  simp only [rxAscii, hc, hb, if_false]

/-- CR after the first character of a pair (44_framer_rx R181). -/
theorem exec_evRx_carriageReturn_of_half_pair (hb : s.astate = .body) (hn : s.nib ≠ none) :
    exec (.evRx carriageReturn) s = .next (s.fail .transactionFailure) := by
  obtain ⟨h, hh⟩ := Option.ne_none_iff_exists'.1 hn
  rw [exec_evRx_of_body hp hm (by decide) hb]
  simp only [asciiBody, hh, if_true]

theorem exec_evRx_not_hex (hb : s.astate = .body) (hc : c ≠ colon) (hcr : c ≠ carriageReturn)
    (hhex : hexDecode c = none) : exec (.evRx c) s = .next (s.fail .transactionFailure) := by
  rw [exec_evRx_of_body hp hm hc hb]
  simp only [asciiBody, hcr, hhex, if_false]

/-- The second character of a pair either finds the window full or stores the byte (44_framer_rx R181, R185). -/
theorem exec_evRx_pair {v h : Nibble} (hb : s.astate = .body) (hv : hexDecode c = some v) (hn : s.nib = some h) :
    exec (.evRx c) s = if s.rxw.length = asciiCapacity then .next (s.fail .invalidDataLength)
      else .next { s with rxw := s.rxw ++ [h ++ v], nib := none } := by
  obtain ⟨hcolon, hcr, -⟩ := ne_delimiter_of_hexDecode hv
  rw [exec_evRx_of_body hp hm hcolon hb]
  simp only [asciiBody, hcr, if_false, hv, hn, joinNibbles_eq_append]

theorem exec_evRx_cr_of_ne_lineFeed (hcr : s.astate = .cr) (hc : c ≠ colon) (hlf : c ≠ lineFeed) :
    exec (.evRx c) s = .next (s.fail .transactionFailure) := by
  rw [evRx_ascii hp hm]
  simp only [rxAscii, hc, hcr, hlf, if_false]

end

/-- Settles O37, sub-state by sub-state; a hex character is the one its nibble encodes (`hexEncode_of_hexDecode`). -/
theorem asciiReceiveStep : Obligations.AsciiReceiveStep := by
  unfold Obligations.AsciiReceiveStep
  intro s c hp hm
  refine ⟨?colon, exec_evRx_of_hunt hp hm, ?halfPair, ?carriageReturn, exec_evRx_not_hex hp hm,
    fun v hb hv hn => ?first, fun v h hb hv hn hfull => ?full, fun v h hb hv hn hroom => ?stored,
    exec_evRx_cr_of_ne_lineFeed hp hm, ?lineFeed⟩
  case colon => rintro rfl; exact exec_evRx_colon hp hm
  case halfPair => rintro hb rfl hn; exact exec_evRx_carriageReturn_of_half_pair hp hm hb hn
  case carriageReturn => rintro hb rfl hn; exact exec_evRx_carriageReturn hp hm hb hn
  case first =>
    rw [← hexEncode_of_hexDecode hv]
    exact exec_evRx_first_digit hp hm v hb hn
  case full => rw [exec_evRx_pair hp hm hb hv hn, asciiCapacity, if_pos hfull]
  case stored => rw [exec_evRx_pair hp hm hb hv hn, asciiCapacity, if_neg hroom]
  case lineFeed => rintro hcr rfl; exact exec_evRx_lineFeed hp hm hcr

theorem asciiEnd_of_lrc_wrong {s : State} (h : lrcOk s.rxw = false) :
    asciiEnd s = .next (s.fail .transactionFailure) := by
  simp only [asciiEnd, h, if_true, ite_self]

/-- A right LRC leaves the shape to decide (44_framer_rx R183). -/
theorem asciiEnd_of_lrcOk {s : State} (h : lrcOk s.rxw = true) :
    asciiEnd s = if shapeOk s.cfg s.rxw.dropLast = false then .next (s.fail .invalidDataType)
      else complete s.rxw.dropLast s := by
  have hne : s.rxw.length ≠ 0 := by have := ((lrcOk_iff s.rxw).1 h).1; omega
  simp [asciiEnd, h, hne, List.dropLast_eq_take]

/-- Settles O38: LF after CR runs `asciiEnd`; the empty sequence has no right LRC. -/
theorem asciiEndOfFrameChecks : Obligations.AsciiEndOfFrameChecks := by
  unfold Obligations.AsciiEndOfFrameChecks
  intro s hp hm hcr
  have hend : exec (.evRx 0x0A#8) s = asciiEnd s := exec_evRx_lineFeed hp hm hcr
  rw [hend, ← List.dropLast_eq_take]
  refine ⟨fun hempty => ?_, fun _ => asciiEnd_of_lrc_wrong, fun hlrc hshape => ?_, fun hlrc hshape => ?_⟩
  · exact asciiEnd_of_lrc_wrong (by rw [hempty]; rfl)
  · rw [asciiEnd_of_lrcOk hlrc, if_pos (Bool.eq_false_iff.2 (mt shapeOk_iff.1 hshape))]
  · rw [asciiEnd_of_lrcOk hlrc, if_neg (by simp [shapeOk_iff.2 hshape])]
    exact complete_of_two_le s (length_of_bodyLen hshape)

end Sys2Proof.Machine
end

section
/-! The RTU receive step (44_framer_rx R176 to R179): a window long enough holds a frame, or loses its first byte. -/

namespace Sys2Proof.Machine

/-- A delivered message's function byte is the second one of the window it is the front of. -/
theorem exceptionBit_take {w : List Byte} {l : Nat} (h : 2 ≤ l) :
    exceptionBit ((w.take l).getD 1 0#8) = (w.getD 1 0#8).getLsbD 7 := by
  simp [exceptionBit, List.getD, List.getElem?_take_of_lt (show 1 < l by omega)]

theorem rtuNeed_of_some {c : Config} {w : List Byte} {l : Nat} (h : bodyLen c w = some l) : rtuNeed c w = l + 2 := by
  simp only [rtuNeed, h]

theorem rtuNeed_of_none {c : Config} {w : List Byte} (h : bodyLen c w = none) : rtuNeed c w = 5 := by
  simp only [rtuNeed, h, minRtu]

theorem rtuMessage_of_crcOk {c : Config} {w : List Byte} {l : Nat} (h : bodyLen c w = some l)
    (hcrc : crcOk (w.take (l + 2)) = true) : rtuMessage c w = some (w.take l) := by
  simp only [rtuMessage, h, hcrc, if_true]

theorem rtuMessage_of_crc_wrong {c : Config} {w : List Byte} {l : Nat} (h : bodyLen c w = some l)
    (hcrc : crcOk (w.take (l + 2)) = false) : rtuMessage c w = none := by
  simp [rtuMessage, h, hcrc]

theorem rtuMessage_of_none {c : Config} {w : List Byte} (h : bodyLen c w = none) : rtuMessage c w = none := by
  simp only [rtuMessage, h]

theorem two_le_rtuNeed {c : Config} (w : List Byte) : 2 ≤ rtuNeed c w := by
  unfold rtuNeed
  split <;> simp [minRtu]

section
variable {c : Config} {w : List Byte} (n : Nat) (hlong : rtuNeed c w ≤ w.length)
include hlong

theorem rtuScan_of_message {m : List Byte} (h : rtuMessage c w = some m) : rtuScan c w n = .found m := by
  cases w with
  | nil => exact absurd hlong (Nat.not_le.2 (rtuNeed_pos c []))
  | cons b rest => rw [rtuScan_long hlong, h]

/-- An invalid candidate counts an iteration and loses its first byte (44_framer_rx R178, R179). -/
theorem rtuScan_of_no_message (h : rtuMessage c w = none) :
    rtuScan c w n = if n + 1 = c.resyncCap then .capReached else rtuScan c w.tail (n + 1) := by
  cases w with
  | nil => exact absurd hlong (Nat.not_le.2 (rtuNeed_pos c []))
  | cons b rest => rw [rtuScan_long hlong, h]; rfl

end

/-- `complete` writes the window and ITER over, whatever they were (44_framer_rx R195). -/
theorem complete_of_window (m w : List Byte) (n : Nat) (s : State) :
    complete m { s with rxw := w, iter := n } = complete m s := by
  unfold complete
  split <;> rfl

section
variable {s : State} {b : Byte} (hp : s.phase = .wait) (hm : s.mode = .rtu)
include hp hm

/-- A window with a valid frame at its front ends the transaction (44_framer_rx R177). -/
theorem exec_evRx_rtu_valid {l : Nat} (ha : configAllowed s.cfg) (hl : bodyLen s.cfg (s.rxw ++ [b]) = some l)
    (hlen : l + 2 ≤ (s.rxw ++ [b]).length) (hcrc : crcOk ((s.rxw ++ [b]).take (l + 2)) = true) :
    exec (.evRx b) s = .next (s.deliver ((s.rxw ++ [b]).take l) (((s.rxw ++ [b]).getD 1 0#8).getLsbD 7)) := by
  have h2 : 2 ≤ l := (bodyLen_bounds ha hl).1
  have hneed : rtuNeed s.cfg (s.rxw ++ [b]) ≤ (s.rxw ++ [b]).length := (rtuNeed_of_some hl).trans_le hlen
  rw [exec_evRx_rtu_found hp hm (rtuScan_of_message _ hneed (rtuMessage_of_crcOk hl hcrc)),
    complete_of_two_le s (by rw [List.length_take]; omega), exceptionBit_take h2]

/-- A byte that makes an invalid candidate reaches the cap, or acts as on the window without its first byte
(44_framer_rx R178, R179). -/
theorem exec_evRx_rtu_dropped (hlong : rtuNeed s.cfg (s.rxw ++ [b]) ≤ (s.rxw ++ [b]).length)
    (hnone : rtuMessage s.cfg (s.rxw ++ [b]) = none) :
    (s.iter + 1 = s.cfg.resyncCap → exec (.evRx b) s = .next (s.fail .transactionFailure)) ∧
    (s.iter + 1 ≠ s.cfg.resyncCap →
      exec (.evRx b) s = exec (.evRx b) { s with rxw := s.rxw.tail, iter := s.iter + 1 }) := by
  have hscan := rtuScan_of_no_message s.iter hlong hnone
  have hne : s.rxw ≠ [] := by
    have h2 : 2 ≤ (s.rxw ++ [b]).length := (two_le_rtuNeed _).trans hlong
    intro hempty
    simp [hempty] at h2
  rw [evRx_rtu hp hm]
  refine ⟨fun hcap => ?_, fun hcap => ?_⟩
  · rw [if_pos hcap] at hscan
    simp only [rxRtu, hscan]
  · rw [if_neg hcap, List.tail_append_of_ne_nil hne] at hscan
    rw [evRx_rtu (s := { s with rxw := s.rxw.tail, iter := s.iter + 1 }) hp hm]
    simp only [rxRtu, hscan]
    split
    · rfl
    · exact (complete_of_window ..).symm
    · rfl

end

/-- Settles O35: the window with the byte is below its `need` (`exec_evRx_rtu_waiting`), holds a frame
(`exec_evRx_rtu_valid`), or is an invalid candidate (`exec_evRx_rtu_dropped`). -/
theorem rtuReceiveStep : Obligations.RtuReceiveStep := by
  unfold Obligations.RtuReceiveStep
  intro s b hp hm ha
  refine ⟨fun l hl => ⟨fun hshort => ?_, exec_evRx_rtu_valid hp hm ha hl, fun hlen hcrc => ?_⟩,
    fun hnone => ⟨fun hshort => ?_, fun hlen => ?_⟩⟩
  · exact exec_evRx_rtu_waiting hp hm (hshort.trans_eq (rtuNeed_of_some hl).symm)
  · exact exec_evRx_rtu_dropped hp hm ((rtuNeed_of_some hl).trans_le hlen) (rtuMessage_of_crc_wrong hl hcrc)
  · exact exec_evRx_rtu_waiting hp hm (hshort.trans_eq (rtuNeed_of_none hnone).symm)
  · exact exec_evRx_rtu_dropped hp hm ((rtuNeed_of_none hnone).trans_le hlen) (rtuMessage_of_none hnone)

end Sys2Proof.Machine
end

section
/-! The bridge receive step (44_framer_rx R190 to R193), by the number of bytes received. -/

namespace Sys2Proof.Machine

theorem bridgeFinish_of_full {s : State} {l : Nat} (hl : bodyLen s.cfg (s.rxw.drop 6) = some l)
    (hlen : s.rxw.length = 6 + l) : bridgeFinish s = complete ((s.rxw.drop 6).take l) s := by
  simp only [bridgeFinish, hl, hlen, if_true]

/-- A bridge window that reaches its length delivers the message after the header (44_framer_rx R192). -/
theorem bridgeFinish_delivers {s : State} {l : Nat} (h2 : 2 ≤ l) (hl : bodyLen s.cfg (s.rxw.drop 6) = some l)
    (hlen : s.rxw.length = 6 + l) :
    bridgeFinish s = .next (s.deliver ((s.rxw.drop 6).take l) ((s.rxw.getD 7 0#8).getLsbD 7)) := by
  have htake : 2 ≤ ((s.rxw.drop 6).take l).length := by rw [List.length_take, List.length_drop]; omega
  have hfunction : (s.rxw.drop 6).getD 1 0#8 = s.rxw.getD 7 0#8 := by simp [List.getD]
  rw [bridgeFinish_of_full hl hlen, complete_of_two_le s htake, exceptionBit_take h2, hfunction]

theorem bridgeFinish_of_not_full {s : State} (h : ∀ l, bodyLen s.cfg (s.rxw.drop 6) = some l → s.rxw.length ≠ 6 + l) :
    bridgeFinish s = .next s := by
  unfold bridgeFinish
  split
  · rename_i l hl
    exact if_neg (h l hl)
  · rfl

/-- The seventh byte alone tells no length. -/
theorem bridgeFinish_of_length_eq_seven {s : State} (h : s.rxw.length = 7) : bridgeFinish s = .next s := by
  refine bridgeFinish_of_not_full fun l hl => ?_
  have h2 : 2 ≤ (s.rxw.drop 6).length := length_of_bodyLen hl
  rw [List.length_drop] at h2
  omega

section
variable {s : State} {b : Byte} (hp : s.phase = .wait) (hm : s.mode = .bridge)
include hp hm

theorem exec_evRx_bridge_header (hn : (s.rxw ++ [b]).length ≤ 6) :
    exec (.evRx b) s = .next { s with rxw := s.rxw ++ [b] } := by
  rw [evRx_bridge hp hm]
  simp only [rxBridge, hn, if_true]

/-- The unit echo (44_framer_rx R191). -/
theorem exec_evRx_bridge_unit {unit : Byte} (hn : (s.rxw ++ [b]).length = 7) (htx : s.txbuf[0]? = some unit) :
    exec (.evRx b) s = .next (if b = unit then { s with rxw := s.rxw ++ [b] }
      else ({ s with rxw := s.rxw ++ [b] } : State).fail .transactionFailure) := by
  have hrx : rxBridge b s = bridgeUnit b { s with rxw := s.rxw ++ [b] } := by simp [rxBridge, hn]
  rw [evRx_bridge hp hm, hrx]
  simp only [bridgeUnit, htx]
  by_cases hb : b = unit
  · rw [if_neg (not_not.2 hb), if_pos hb]
    exact bridgeFinish_of_length_eq_seven hn
  · rw [if_pos hb, if_neg hb]

/-- The eighth byte marks EXC before the function echo and the class are checked (44_framer_rx R191, R193). -/
theorem exec_evRx_bridge_function {function : Byte} (hn : (s.rxw ++ [b]).length = 8)
    (htx : s.txbuf[1]? = some function) :
    exec (.evRx b) s =
      if b ≠ function ∨ shapeOf s.cfg b = .unknown then
        .next (({ s with rxw := s.rxw ++ [b], exc := s.exc || b.getLsbD 7 } : State).fail .transactionFailure)
      else bridgeFinish { s with rxw := s.rxw ++ [b], exc := s.exc || b.getLsbD 7 } := by
  have hrx : rxBridge b s = bridgeFunction b { s with rxw := s.rxw ++ [b] } := by simp [rxBridge, hn]
  rw [evRx_bridge hp hm, hrx]
  unfold bridgeFunction
  rw [setExc_eq]
  simp only [htx, ite_or]
  rfl

theorem exec_evRx_bridge_data (hn : 9 ≤ (s.rxw ++ [b]).length) :
    exec (.evRx b) s = bridgeFinish { s with rxw := s.rxw ++ [b] } := by
  rw [evRx_bridge hp hm]
  simp only [rxBridge, show ¬ (s.rxw ++ [b]).length ≤ 6 by omega, show (s.rxw ++ [b]).length ≠ 7 by omega,
    show (s.rxw ++ [b]).length ≠ 8 by omega, if_false]

end

/-- Settles O40: the echo checks by the byte's place, and from the eighth byte on the last lines of 44_framer_rx R190
(`bridgeFinish_delivers`, `bridgeFinish_of_not_full`). -/
theorem bridgeReceiveStep : Obligations.BridgeReceiveStep := by
  unfold Obligations.BridgeReceiveStep
  intro s b unit function data hp hm htx ha
  have hunit : s.txbuf[0]? = some unit := by rw [htx]; rfl
  have hfunction : s.txbuf[1]? = some function := by rw [htx]; rfl
  refine ⟨exec_evRx_bridge_header hp hm, fun h7 hb => ?_, fun h7 hb => ?_, fun h8 hb => ?_, fun h8 hb hshape => ?_,
    fun h8 hb hshape => ?_, fun h9 => ?_⟩
  · rw [exec_evRx_bridge_unit hp hm h7 hunit, if_neg hb]
  · rw [exec_evRx_bridge_unit hp hm h7 hunit, if_pos hb]
  · rw [exec_evRx_bridge_function hp hm h8 hfunction, if_pos (.inl hb)]
  · rw [exec_evRx_bridge_function hp hm h8 hfunction, if_pos (.inr hshape)]
  · rw [exec_evRx_bridge_function hp hm h8 hfunction, if_neg (not_or.2 ⟨not_not.2 hb, hshape⟩)]
    exact ⟨fun l hl hlen => bridgeFinish_delivers (bodyLen_bounds ha hl).1 hl hlen, fun h => bridgeFinish_of_not_full h⟩
  · rw [exec_evRx_bridge_data hp hm h9]
    exact ⟨fun l hl hlen => bridgeFinish_delivers (bodyLen_bounds ha hl).1 hl hlen, fun h => bridgeFinish_of_not_full h⟩

end Sys2Proof.Machine
end

section
/-! Delivery of a bridge response (44_framer_rx R190, R192): a proper front that echoes the command waits, the whole
response is delivered. -/

namespace Sys2Proof.Machine

/-- The whole response in the window delivers its message. -/
theorem bridgeFinish_of_response {s : State} {header m : List Byte} (hh : header.length = 6) (hw : s.rxw = header ++ m)
    (hok : shapeOk s.cfg m = true) : bridgeFinish s = .next (s.deliver m (exceptionBit (m.getD 1 0#8))) := by
  have hknown : bodyLen s.cfg m = some m.length := bodyLen_of_shapeOk hok
  have hdrop : s.rxw.drop 6 = m := by rw [hw, ← hh, List.drop_left]
  have hlen : s.rxw.length = 6 + m.length := by rw [hw, List.length_append, hh]
  rw [bridgeFinish_of_full (by rw [hdrop, hknown]) hlen, hdrop, List.take_length,
    complete_of_two_le s (length_of_bodyLen hknown)]

/-- A byte that passes its echo check leaves only the last lines of 44_framer_rx R190 to run. -/
theorem exec_evRx_bridge_of_echoesCommand {s : State} {b : Byte} (hp : s.phase = .wait) (hm : s.mode = .bridge)
    (he : EchoesCommand s (s.rxw ++ [b])) :
    ∃ e, exec (.evRx b) s = bridgeFinish { s with rxw := s.rxw ++ [b], exc := e } := by
  obtain ⟨hunit, hfunction⟩ := he
  have hlast {n : Nat} (hn : (s.rxw ++ [b]).length = n + 1) : (s.rxw ++ [b])[n]? = some b := by
    have hlen : s.rxw.length = n := by simpa using hn
    simp [← hlen]
  rcases Nat.lt_or_ge 8 (s.rxw ++ [b]).length with h9 | hle
  · exact ⟨s.exc, exec_evRx_bridge_data hp hm h9⟩
  rcases hle.eq_or_lt with h8 | hlt
  · obtain ⟨hecho, hshape⟩ := hfunction h8.ge
    rw [hlast h8] at hecho hshape
    exact ⟨_, by rw [exec_evRx_bridge_function hp hm h8 hecho.symm, if_neg (by simpa using hshape)]⟩
  rcases (Nat.le_of_lt_succ hlt).eq_or_lt with h7 | h6
  · have hecho := hunit h7.ge
    rw [hlast h7] at hecho
    refine ⟨s.exc, ?_⟩
    rw [exec_evRx_bridge_unit hp hm h7 hecho.symm, if_pos rfl]
    exact (bridgeFinish_of_length_eq_seven h7).symm
  · have hheader : (s.rxw ++ [b]).length ≤ 6 := Nat.le_of_lt_succ h6
    refine ⟨s.exc, ?_⟩
    rw [exec_evRx_bridge_header hp hm hheader]
    exact (bridgeFinish_of_length_le hheader).symm

/-- Every front of a bridge response that echoes the command passes the echo checks (44_framer_rx R191, R193). -/
theorem echoesCommand_of_prefix {s : State} {header m w : List Byte} (hh : header.length = 6)
    (hunit : s.txbuf[0]? = m[0]?) (hfunction : s.txbuf[1]? = m[1]?) (hok : shapeOk s.cfg m = true)
    (h : w <+: header ++ m) : EchoesCommand s w := by
  obtain ⟨y, hy⟩ := h
  have hbyte (i : Nat) (hi : 6 + i < w.length) : w[6 + i]? = m[i]? := by
    rw [← List.getElem?_append_left (l₂ := y) hi, hy, List.getElem?_append_right (by omega), hh,
      Nat.add_sub_cancel_left]
  refine ⟨fun h7 => ?_, fun h8 => ?_⟩
  · rw [hunit]; exact hbyte 0 h7
  · rw [hfunction, hbyte 1 h8]
    exact ⟨rfl, shape_known_of_bodyLen (bodyLen_of_shapeOk hok)⟩

/-- A proper front of a bridge response has not reached its length (44_framer_rx R192). -/
theorem length_ne_of_proper_prefix {c : Config} {header m w : List Byte} {l : Nat} (hh : header.length = 6)
    (hok : shapeOk c m = true) (h : w <+: header ++ m) (hlen : w.length < 6 + m.length)
    (hl : bodyLen c (w.drop 6) = some l) : w.length ≠ 6 + l := by
  have hbody : w.drop 6 <+: m ++ [] := by simpa [List.drop_append, ← hh] using h.drop 6
  rcases bodyLen_of_prefix (bodyLen_of_shapeOk hok) hbody with hm | ⟨hnone, -⟩
  · rw [hl, Option.some.injEq] at hm
    omega
  · simp [hnone] at hl

/-- Bytes of a bridge response before its last are stored; EXC may be marked on the way. -/
theorem run_evRx_bridge_waiting (u : List Byte) {is : List Instr} {rest : List Input} (k : Nat) {s : State}
    (hp : s.phase = .wait) (hm : s.mode = .bridge)
    (hwaits : ∀ w, w <+: s.rxw ++ u → EchoesCommand s w ∧ ∀ l, bodyLen s.cfg (w.drop 6) = some l → w.length ≠ 6 + l)
    (hin : s.inputs = inputsOf (u.map .evRx ++ is) ++ rest) :
    ∃ e, Host.Core.run core (u.length + k) s =
      Host.Core.run core k { s with rxw := s.rxw ++ u, exc := e, inputs := inputsOf is ++ rest } := by
  induction u generalizing s with
  | nil => exact ⟨s.exc, by simp [show inputsOf is ++ rest = s.inputs from hin.symm]⟩
  | cons b u ih =>
    obtain ⟨hecho, hshort⟩ := hwaits (s.rxw ++ [b]) ⟨u, by simp⟩
    obtain ⟨e, hstore⟩ := exec_evRx_bridge_of_echoesCommand
      (s := { s with inputs := inputsOf (u.map .evRx ++ is) ++ rest }) hp hm hecho
    rw [bridgeFinish_of_not_full hshort] at hstore
    obtain ⟨e', hrun⟩ := ih
      (s := { s with rxw := s.rxw ++ [b], exc := e, inputs := inputsOf (u.map .evRx ++ is) ++ rest }) hp hm
      (fun w hw => hwaits w (by simpa using hw)) rfl
    refine ⟨e', ?_⟩
    rw [List.length_cons, Nat.add_right_comm, run_succ_of_exec _ hin rfl hstore, hrun]
    simp

/-- Settles O41: the bytes before the last one wait (`run_evRx_bridge_waiting`), and with the last one the window holds
the response (`bridgeFinish_of_response`). -/
theorem bridgeFrameOfAMessageIsDelivered : Obligations.BridgeFrameOfAMessageIsDelivered := by
  unfold Obligations.BridgeFrameOfAMessageIsDelivered
  intro s header m rest hp hm hw hh hunit hfunction hok hin
  obtain ⟨w, b, hframe⟩ : ∃ w b, header ++ m = w ++ [b] :=
    (List.eq_nil_or_concat' _).resolve_left (by simp [← List.length_eq_zero_iff, hh])
  have hlen : 6 + m.length = w.length + 1 := by simpa [hh] using congrArg List.length hframe
  have hwaits : ∀ v, v <+: s.rxw ++ w →
      EchoesCommand s v ∧ ∀ l, bodyLen s.cfg (v.drop 6) = some l → v.length ≠ 6 + l := by
    intro v hpre
    rw [hw, List.nil_append] at hpre
    have hle : v.length ≤ w.length := hpre.length_le
    have hfront : v <+: header ++ m := hframe ▸ hpre.trans (List.prefix_append w [b])
    exact ⟨echoesCommand_of_prefix hh hunit hfunction hok hfront,
      fun l => length_ne_of_proper_prefix hh hok hfront (by omega)⟩
  have hecho : EchoesCommand s (header ++ m) := echoesCommand_of_prefix hh hunit hfunction hok List.prefix_rfl
  have hdelivered (e : Bool) : exec (.evRx b) { s with rxw := w, exc := e, inputs := rest } =
      .next (({ s with inputs := rest } : State).deliver m ((m.getD 1 0#8).getLsbD 7)) := by
    obtain ⟨e', hlast⟩ := exec_evRx_bridge_of_echoesCommand (b := b)
      (s := { s with rxw := w, exc := e, inputs := rest }) hp hm (hframe ▸ hecho)
    exact hlast.trans (bridgeFinish_of_response hh hframe.symm hok)
  rw [hframe, List.map_append] at hin
  obtain ⟨e, hrun⟩ := run_evRx_bridge_waiting w 1 hp hm hwaits hin
  rw [hlen, hrun, hw]
  exact run_succ_of_exec 0 (is := []) rfl rfl (hdelivered e)

end Sys2Proof.Machine
end

section
/-! The link's commands and events (45_link R211 to R215), each by the state it finds, and their words. -/

namespace Sys2Proof.Machine

theorem exec_frConnect_of_disconnected {s : State} (h : s.link = .disconnected) : exec .frConnect s =
    .next { s with link := .connecting, lerr := 0#4, answers := s.answers ++ [⟨0#4, 0#16⟩] } := by
  simp only [exec, execFrConnect, h]
  rfl

theorem exec_frConnect_of_not_disconnected {s : State} (h : s.link ≠ .disconnected) :
    exec .frConnect s = .next { s with answers := s.answers ++ [⟨0#4, 0#16⟩] } := by
  simp only [exec, execFrConnect]
  split
  · exact absurd ‹_› h
  · rfl
  · rfl

theorem exec_frDisconnect_of_wait {s : State} (h : s.phase = .wait) : exec .frDisconnect s =
    .next { s.fail .transactionFailure with link := .disconnected, answers := s.answers ++ [⟨0#4, 0#16⟩] } := by
  simp only [exec, execFrDisconnect, failIfBusy_of_wait _ h]
  rfl

theorem exec_frDisconnect_of_idle {s : State} (h : s.phase = .idle) :
    exec .frDisconnect s = .next { s with link := .disconnected, answers := s.answers ++ [⟨0#4, 0#16⟩] } := by
  simp only [exec, execFrDisconnect, failIfBusy_of_idle _ h]
  rfl

theorem exec_evLinkok_of_connecting {s : State} (h : s.link = .connecting) :
    exec .evLinkok s = .next { s with link := .connected } := by
  simp only [exec, execEvLinkok, h]

theorem exec_evLinkok_of_not_connecting {s : State} (h : s.link ≠ .connecting) : exec .evLinkok s = .next s := by
  simp only [exec, execEvLinkok]
  split
  · exact absurd ‹_› h
  · rfl
  · rfl

/-- LERR is the operand itself: the kind it names has it for its code (30_encoding R76). -/
theorem exec_evLinkfail_of_connecting {s : State} {k : Nibble} (hk : (Instr.evLinkfail k).wellFormed = true)
    (h : s.link = .connecting) : exec (.evLinkfail k) s = .next { s with link := .disconnected, lerr := k } := by
  rw [← linkfailKind_isSome, Option.isSome_iff_exists] at hk
  obtain ⟨kind, hkind⟩ := hk
  simp only [exec, execEvLinkfail, hkind, h, code_of_linkfailKind hkind]

theorem exec_evLinkfail_of_not_connecting {s : State} {k : Nibble} (hk : (Instr.evLinkfail k).wellFormed = true)
    (h : s.link ≠ .connecting) : exec (.evLinkfail k) s = .next s := by
  rw [← linkfailKind_isSome, Option.isSome_iff_exists] at hk
  obtain ⟨kind, hkind⟩ := hk
  simp only [exec, execEvLinkfail, hkind]
  split
  · exact absurd ‹_› h
  · rfl
  · rfl

/-- A reserved kind is refused (30_encoding R77). -/
theorem wellFormed_of_exec_evLinkfail {s t : State} {k : Nibble} (h : exec (.evLinkfail k) s = .next t) :
    (Instr.evLinkfail k).wellFormed = true := by
  rw [← linkfailKind_isSome]
  cases hk : linkfailKind k with
  | none => simp [exec, execEvLinkfail, hk] at h
  | some kind => rfl

theorem exec_evIofail_of_wait {s : State} (hl : s.link = .connected) (hp : s.phase = .wait) :
    exec .evIofail s = .next { s.fail .connectionFailure with link := .disconnected } := by
  simp only [exec, execEvIofail, hl, failIfBusy_of_wait _ hp]

theorem exec_evIofail_of_idle {s : State} (hl : s.link = .connected) (hp : s.phase = .idle) :
    exec .evIofail s = .next { s with link := .disconnected } := by
  simp only [exec, execEvIofail, hl, failIfBusy_of_idle _ hp]

theorem exec_evIofail_of_not_connected {s : State} (h : s.link ≠ .connected) : exec .evIofail s = .next s := by
  simp only [exec, execEvIofail]
  split
  · exact absurd ‹_› h
  · rfl
  · rfl

theorem encode_evLinkfail (k : Nibble) : encode (.evLinkfail k) = .event (0x500#12 ||| k.setWidth 12) := by
  revert k; decide

/-- Settles O47, state by state. -/
theorem connectAndDisconnect : Obligations.ConnectAndDisconnect := by
  unfold Obligations.ConnectAndDisconnect
  exact fun s => ⟨exec_frConnect_of_disconnected, exec_frConnect_of_not_disconnected, exec_frDisconnect_of_wait,
    exec_frDisconnect_of_idle, rfl, rfl⟩

/-- Settles O48, state by state. -/
theorem linkEvents : Obligations.LinkEvents := by
  unfold Obligations.LinkEvents
  exact fun s k hk => ⟨exec_evLinkok_of_connecting, exec_evLinkok_of_not_connecting, exec_evLinkfail_of_connecting hk,
    exec_evLinkfail_of_not_connecting hk, exec_evIofail_of_wait, exec_evIofail_of_idle, exec_evIofail_of_not_connected,
    rfl, rfl, encode_evLinkfail k⟩

end Sys2Proof.Machine
end

section
/-! LINK and LERR over all instructions (45_link R210): the link's own inputs move them as the table says, the other
instructions leave them alone. -/

namespace Sys2Proof.Machine

/-- The instructions that stand in the table of 45_link R210. -/
def isLinkInput : Instr → Bool
  | .frConnect | .frDisconnect | .evLinkok | .evLinkfail _ | .evIofail => true
  | _ => false

/-- LERR after an instruction: the column "Other effects" of 45_link R210, beside `linkAfter`. -/
def lerrAfter (l : Link) (lerr : Nibble) : Instr → Nibble
  | .frConnect => if l = .disconnected then 0#4 else lerr
  | .evLinkfail k => if l = .connecting then k else lerr
  | _ => lerr

theorem linkAfter_frDisconnect (l : Link) : linkAfter l .frDisconnect = .disconnected := by cases l <;> rfl

theorem linkAfter_of_not_linkInput {i : Instr} (l : Link) (h : isLinkInput i = false) : linkAfter l i = l := by
  unfold linkAfter
  split
  case h_7 => rfl
  all_goals cases h

theorem lerrAfter_of_not_linkInput {i : Instr} (l : Link) (lerr : Nibble) (h : isLinkInput i = false) :
    lerrAfter l lerr i = lerr := by
  unfold lerrAfter
  split
  case h_3 => rfl
  all_goals cases h

theorem lerrAfter_ne {l : Link} {lerr : Nibble} {i : Instr} (h : lerrAfter l lerr i ≠ lerr) :
    (l = .disconnected ∧ i = .frConnect) ∨ (l = .connecting ∧ ∃ k, i = .evLinkfail k) := by
  unfold lerrAfter at h
  split at h
  · exact .inl ⟨by simp_all, rfl⟩
  · exact .inr ⟨by simp_all, _, rfl⟩
  · exact absurd rfl h

/-- What an input of the link does: LINK and LERR move by the table of 45_link R210, and of the rest only the answers,
unless a transaction in flight fails. -/
structure LinkInputEffect (s : State) (i : Instr) (t : State) : Prop where
  link : t.link = linkAfter s.link i
  lerr : t.lerr = lerrAfter s.link s.lerr i
  frame : t = { s with link := t.link, lerr := t.lerr, answers := t.answers } ∨
    (s.phase = .wait ∧ ∃ kind, t = { s.fail kind with link := t.link, answers := t.answers })

section
variable {s t : State}

theorem exec_frConnect_linkInputEffect (h : exec .frConnect s = .next t) : LinkInputEffect s .frConnect t := by
  cases hl : s.link with
  | disconnected =>
    rw [exec_frConnect_of_disconnected hl] at h
    cases h
    exact ⟨by rw [hl]; rfl, by rw [hl]; rfl, .inl rfl⟩
  | connecting | connected =>
    rw [exec_frConnect_of_not_disconnected (by simp [hl])] at h
    cases h
    exact ⟨by simp [hl, linkAfter], by simp [hl, lerrAfter], .inl rfl⟩

theorem exec_frDisconnect_linkInputEffect (h : exec .frDisconnect s = .next t) : LinkInputEffect s .frDisconnect t := by
  cases hp : s.phase with
  | idle =>
    rw [exec_frDisconnect_of_idle hp] at h
    cases h
    exact ⟨(linkAfter_frDisconnect _).symm, rfl, .inl rfl⟩
  | wait =>
    rw [exec_frDisconnect_of_wait hp] at h
    cases h
    exact ⟨(linkAfter_frDisconnect _).symm, rfl, .inr ⟨hp, _, rfl⟩⟩

theorem exec_evLinkok_linkInputEffect (h : exec .evLinkok s = .next t) : LinkInputEffect s .evLinkok t := by
  cases hl : s.link with
  | connecting =>
    rw [exec_evLinkok_of_connecting hl] at h
    cases h
    exact ⟨by rw [hl]; rfl, rfl, .inl rfl⟩
  | disconnected | connected =>
    rw [exec_evLinkok_of_not_connecting (by simp [hl])] at h
    cases h
    exact ⟨by simp [hl, linkAfter], rfl, .inl rfl⟩

theorem exec_evLinkfail_linkInputEffect {k : Nibble} (h : exec (.evLinkfail k) s = .next t) :
    LinkInputEffect s (.evLinkfail k) t := by
  have hk := wellFormed_of_exec_evLinkfail h
  cases hl : s.link with
  | connecting =>
    rw [exec_evLinkfail_of_connecting hk hl] at h
    cases h
    exact ⟨by rw [hl]; rfl, by rw [hl]; rfl, .inl rfl⟩
  | disconnected | connected =>
    rw [exec_evLinkfail_of_not_connecting hk (by simp [hl])] at h
    cases h
    exact ⟨by simp [hl, linkAfter], by simp [hl, lerrAfter], .inl rfl⟩

theorem exec_evIofail_linkInputEffect (h : exec .evIofail s = .next t) : LinkInputEffect s .evIofail t := by
  cases hl : s.link with
  | connected =>
    cases hp : s.phase with
    | idle =>
      rw [exec_evIofail_of_idle hl hp] at h
      cases h
      exact ⟨by rw [hl]; rfl, rfl, .inl rfl⟩
    | wait =>
      rw [exec_evIofail_of_wait hl hp] at h
      cases h
      exact ⟨by rw [hl]; rfl, rfl, .inr ⟨hp, _, rfl⟩⟩
  | disconnected | connecting =>
    rw [exec_evIofail_of_not_connected (by simp [hl])] at h
    cases h
    exact ⟨by simp [hl, linkAfter], rfl, .inl rfl⟩

/-- Everything an input of the link can do. -/
theorem exec_linkInputEffect {i : Instr} (hi : isLinkInput i = true) (h : exec i s = .next t) :
    LinkInputEffect s i t := by
  cases i with
  | frConnect => exact exec_frConnect_linkInputEffect h
  | frDisconnect => exact exec_frDisconnect_linkInputEffect h
  | evLinkok => exact exec_evLinkok_linkInputEffect h
  | evLinkfail k => exact exec_evLinkfail_linkInputEffect h
  | evIofail => exact exec_evIofail_linkInputEffect h
  | _ => cases hi

/-- A command whose writes leave LINK and LERR alone leaves them alone, accepted or not. -/
theorem Answered.link_lerr (h : Answered s (fun u => u.link = s.link ∧ u.lerr = s.lerr) t) :
    t.link = s.link ∧ t.lerr = s.lerr := by
  cases h with
  | rejected kind => exact ⟨rfl, rfl⟩
  | accepted hu => exact hu

/-- An instruction outside the table of 45_link R210 leaves LINK and LERR alone. -/
theorem exec_link_lerr_of_not_linkInput {i : Instr} (hi : isLinkInput i = false) (h : exec i s = .next t) :
    t.link = s.link ∧ t.lerr = s.lerr := by
  cases i with
  | crcInit | crcUpd b | crcRd | crcChk | lrcInit | lrcUpd b | lrcRd | lrcChk | hexEnc b | frStat | frRxlen | frCnt k =>
    cases h; exact ⟨rfl, rfl⟩
  | hexDec c => exact ((execHexDec_answered h).mono fun | _, rfl => ⟨rfl, rfl⟩).link_lerr
  | frMode m => exact ((execFrMode_answered h).mono fun | _, ⟨_, rfl⟩ => ⟨rfl, rfl⟩).link_lerr
  | frTxclr => exact ((execFrTxclr_answered h).mono fun | _, ⟨_, rfl⟩ => ⟨rfl, rfl⟩).link_lerr
  | frTxpush b => exact ((execFrTxpush_answered h).mono fun | _, ⟨_, rfl⟩ => ⟨rfl, rfl⟩).link_lerr
  | frRxpop => exact ((execFrRxpop_answered h).mono fun | _, ⟨_, rfl⟩ => ⟨rfl, rfl⟩).link_lerr
  | frXact => exact ((execFrXact_answered h).mono fun | _, rfl => ⟨rfl, rfl⟩).link_lerr
  | evRx b =>
    obtain ⟨-, hframe, -⟩ := transactionsLeaveTheOtherRegistersAlone s t b
    rw [hframe h]
    exact ⟨rfl, rfl⟩
  | evTimeout =>
    obtain ⟨-, -, hframe⟩ := transactionsLeaveTheOtherRegistersAlone s t 0#8
    rw [hframe h]
    exact ⟨rfl, rfl⟩
  | frConnect | frDisconnect | evLinkok | evLinkfail k | evIofail => cases hi

/-- LINK and LERR after any instruction (45_link R210). -/
theorem exec_link_lerr {i : Instr} (h : exec i s = .next t) :
    t.link = linkAfter s.link i ∧ t.lerr = lerrAfter s.link s.lerr i := by
  cases hi : isLinkInput i with
  | true =>
    obtain ⟨hlink, hlerr, -⟩ := exec_linkInputEffect hi h
    exact ⟨hlink, hlerr⟩
  | false =>
    rw [linkAfter_of_not_linkInput _ hi, lerrAfter_of_not_linkInput _ _ hi]
    exact exec_link_lerr_of_not_linkInput hi h

end

/-- Settles O49: LINK and LERR by `exec_link_lerr`; a transaction in flight fails as the equations of @IOFAIL and
FR.DISCONNECT say. -/
theorem linkMovesOnlyAsTheTableSays : Obligations.LinkMovesOnlyAsTheTableSays := by
  unfold Obligations.LinkMovesOnlyAsTheTableSays
  refine ⟨fun i s t h => ?_, State.applyReset_link⟩
  obtain ⟨hlink, hlerr⟩ := exec_link_lerr h
  refine ⟨hlink, ?connect, ?linkfail, fun hne => lerrAfter_ne (hlerr ▸ hne), ?iofail, ?disconnect⟩
  case connect =>
    rintro hl rfl
    rw [hlerr, hl]
    rfl
  case linkfail =>
    rintro k hl rfl
    rw [hlerr, hl]
    rfl
  case iofail =>
    rintro hl rfl hp
    rw [exec_evIofail_of_wait hl hp] at h
    cases h
    exact ⟨rfl, rfl⟩
  case disconnect =>
    rintro - rfl hp
    rw [exec_frDisconnect_of_wait hp] at h
    cases h
    exact ⟨rfl, rfl⟩

/-- Settles O60, by the frame of `LinkInputEffect`: only a transaction in flight can fail. -/
theorem linkInputsLeaveTheOtherRegistersAlone : Obligations.LinkInputsLeaveTheOtherRegistersAlone := by
  unfold Obligations.LinkInputsLeaveTheOtherRegistersAlone
  intro i s t k hi h
  have hinput : isLinkInput i = true := by
    simp only [List.mem_cons, List.not_mem_nil, or_false] at hi
    rcases hi with rfl | rfl | rfl | rfl | rfl <;> rfl
  obtain ⟨-, -, ht | ⟨hp, kind, ht⟩⟩ := exec_linkInputEffect hinput h
  · exact ⟨fun _ => ht, fun _ => by rw [ht]⟩
  · exact ⟨fun hidle => by simp [hp] at hidle, fun _ => by rw [ht]; rfl⟩

end Sys2Proof.Machine
end

section
/-! ERR between transactions, and the last byte of a response against a @TIMEOUT (60_exceptions R236, R239). -/

namespace Sys2Proof.Machine

/-- While idle nothing fails and no byte is received, so ERR moves only where a transaction starts. -/
theorem exec_err_of_idle {i : Instr} {s t : State} (hp : s.phase = .idle) (h : exec i s = .next t)
    (hs : ¬ startsTransaction i s) : t.err = s.err := by
  cases exec_effect h with
  | answered | configured | popped | linkMoved => rfl
  | started hstart => exact absurd hstart hs
  | failed _ _ _ _ _ hwait => simp [hp] at hwait
  | received b =>
    rw [exec_evRx_of_idle b hp] at h
    cases h
    rfl

/-- Settles O32: `fail` and the codes are as written; between transactions ERR stays (`exec_err_of_idle`). -/
theorem failWritesExactlyTheseRegisters : Obligations.FailWritesExactlyTheseRegisters := by
  unfold Obligations.FailWritesExactlyTheseRegisters
  exact ⟨fun _ _ => rfl, fun _ _ _ => exec_err_of_idle, rfl⟩

/-- Of what a received byte can do, only the completion sets DONE (44_framer_rx R195). -/
theorem exec_evRx_sets_done {b : Byte} {s t : State} (h : exec (.evRx b) s = .next t) (hs : s.done = false)
    (ht : t.done = true) : ∃ m, t = s.deliver m (exceptionBit (m.getD 1 0#8)) := by
  cases execEvRx_next h with
  | goesOn hkept => rw [hkept] at ht; simp [hs] at ht
  | completes m _ _ hdeliver => exact ⟨m, hdeliver⟩
  | fails kind e _ _ hfail => subst hfail; cases ht

/-- Settles O43: either input leaves the block idle, where the other one does nothing. -/
theorem lastByteAndTimeoutInEitherOrder : Obligations.LastByteAndTimeoutInEitherOrder := by
  unfold Obligations.LastByteAndTimeoutInEitherOrder
  intro s t b hwait hbyte htdone hsdone
  constructor
  · obtain ⟨m, rfl⟩ := exec_evRx_sets_done hbyte hsdone htdone
    exact ⟨exec_evTimeout_of_idle rfl, rfl⟩
  · exact ⟨_, exec_evTimeout_of_wait hwait, rfl, rfl, exec_evRx_of_idle b rfl⟩

end Sys2Proof.Machine
end

section
/-! How a command word is answered (60_exceptions R235, R237): a rejection changes nothing else, and the first failed
check gives it. -/

namespace Sys2Proof.Machine

/-- A command is answered once, and an answer of non-zero status is a rejection's (60_exceptions R235). -/
theorem Answered.status_zero_or_rejected {s t : State} (h : Answered s (fun u => u.answers = s.answers) t) :
    ∃ a, t.answers = s.answers ++ [a] ∧
      (a.st ≠ 0#4 → a.val = 0#16 ∧ t = { s with answers := s.answers ++ [a] }) := by
  cases h with
  | rejected kind => exact ⟨⟨kind.code, 0#16⟩, rfl, fun _ => ⟨rfl, rfl⟩⟩
  | @accepted u val hu => exact ⟨⟨0#4, val⟩, by rw [State.accept_answers, hu], fun hst => absurd rfl hst⟩

/-- Settles O54: commands by `exec_answered`, events by `exec_event_answers`. -/
theorem rejectedCommandsChangeNothing : Obligations.RejectedCommandsChangeNothing := by
  unfold Obligations.RejectedCommandsChangeNothing
  exact fun i s t h => ⟨fun hc => (exec_answered hc h).status_zero_or_rejected, fun hc => exec_event_answers hc h⟩

/-- What the order of checks makes of a command: rejected for the first that failed, else accepted after writes that
leave the earlier answers alone. -/
inductive AnsweredByChecks (i : Instr) (s : State) : Prop
  | rejected {kind : ErrorKind} (hcheck : firstFailedCheck i s = some kind) (hexec : exec i s = .next (s.reject kind))
  | accepted {u : State} {val : Word} (hcheck : firstFailedCheck i s = none) (hexec : exec i s = .next (u.accept val))
      (hu : u.answers = s.answers)

theorem frMode_answeredByChecks (m : BitVec 2) (s : State) : AnsweredByChecks (.frMode m) s := by
  cases hp : s.phase with
  | wait => exact .rejected (by simp [firstFailedCheck, hp]) (exec_frMode_of_wait hp m)
  | idle =>
    cases hm : modeOfOperand m with
    | none =>
      obtain rfl := (modeOfOperand_eq_none_iff m).1 hm
      exact .rejected (by simp [firstFailedCheck, hp]) (execFrMode_three hp)
    | some mode =>
      have h3 : m ≠ 3#2 := mt (modeOfOperand_eq_none_iff m).2 (by simp [hm])
      obtain rfl := code_of_modeOfOperand hm
      exact .accepted (by simp [firstFailedCheck, hp, h3]) (exec_frMode_of_idle hp mode) rfl

theorem frTxclr_answeredByChecks (s : State) : AnsweredByChecks .frTxclr s := by
  cases hp : s.phase with
  | wait => exact .rejected (by simp [firstFailedCheck, hp]) (exec_frTxclr_of_wait hp)
  | idle => exact .accepted (by simp [firstFailedCheck, hp]) (exec_frTxclr_of_idle hp) rfl

theorem frTxpush_answeredByChecks (b : Byte) (s : State) : AnsweredByChecks (.frTxpush b) s := by
  cases hp : s.phase with
  | wait => exact .rejected (by simp [firstFailedCheck, hp]) (exec_frTxpush_of_wait hp b)
  | idle =>
    by_cases hfull : s.txbuf.length = 256
    · exact .rejected (by simp [firstFailedCheck, hp, hfull]) (exec_frTxpush_of_full hp b hfull)
    · exact .accepted (by simp [firstFailedCheck, hp, hfull]) (exec_frTxpush_of_not_full hp b hfull) rfl

theorem frXact_answeredByChecks (s : State) : AnsweredByChecks .frXact s := by
  cases hp : s.phase with
  | wait => exact .rejected (by simp [firstFailedCheck, hp]) (exec_frXact_of_wait hp)
  | idle =>
    by_cases hl : s.link = .connected
    · by_cases hlen : s.txbuf.length < 2
      · exact .rejected (by simp [firstFailedCheck, hp, hl, hlen]) (exec_frXact_of_short hp hl hlen)
      · exact .accepted (by simp [firstFailedCheck, hp, hl, hlen])
          (exec_frXact_of_checked hp hl (Nat.le_of_not_lt hlen)) rfl
    · exact .rejected (by simp [firstFailedCheck, hp, hl]) (exec_frXact_of_not_connected hp hl)

/-- An RXPTR within RXBUF is at its end or at a byte to read (10_state R38 item 2). -/
theorem frRxpop_answeredByChecks {s : State} (h : s.rxptr ≤ s.rxbuf.length) : AnsweredByChecks .frRxpop s := by
  by_cases hend : s.rxptr = s.rxbuf.length
  · exact .rejected (if_pos hend) (exec_frRxpop_of_read_out hend)
  · have hv := List.getElem?_eq_getElem (Nat.lt_of_le_of_ne h hend)
    exact .accepted (u := { s with rxptr := s.rxptr + 1 }) (if_neg hend) (exec_frRxpop_of_some hv) rfl

theorem hexDec_answeredByChecks (c : Byte) (s : State) : AnsweredByChecks (.hexDec c) s := by
  cases hc : hexDecode c with
  | none => exact .rejected (if_pos hc) (exec_hexDec_of_none s hc)
  | some n => exact .accepted (u := s) (by simp [firstFailedCheck, hc]) (exec_hexDec_of_some s hc) rfl

theorem frConnect_answeredByChecks (s : State) : AnsweredByChecks .frConnect s := by
  by_cases hl : s.link = .disconnected
  · exact .accepted (u := { s with link := .connecting, lerr := 0#4 }) rfl (exec_frConnect_of_disconnected hl) rfl
  · exact .accepted (u := s) rfl (exec_frConnect_of_not_disconnected hl) rfl

/-- Every command is answered by the first check it fails (60_exceptions R237). -/
theorem command_answeredByChecks {i : Instr} {s : State} (hc : i.isCommand = true) (hptr : s.rxptr ≤ s.rxbuf.length) :
    AnsweredByChecks i s := by
  cases i with
  | frMode m => exact frMode_answeredByChecks m s
  | frTxclr => exact frTxclr_answeredByChecks s
  | frTxpush b => exact frTxpush_answeredByChecks b s
  | frXact => exact frXact_answeredByChecks s
  | frRxpop => exact frRxpop_answeredByChecks hptr
  | hexDec c => exact hexDec_answeredByChecks c s
  | frConnect => exact frConnect_answeredByChecks s
  | frDisconnect => exact .accepted rfl rfl (State.failIfBusy_answers ..)
  | crcInit | crcUpd b | crcRd | crcChk | lrcInit | lrcUpd b | lrcRd | lrcChk | hexEnc b | frStat | frRxlen | frCnt k =>
    exact .accepted rfl rfl rfl
  | evRx | evTimeout | evIofail | evLinkok | evLinkfail => cases hc

section
variable {i : Instr} {s : State}

theorem AnsweredByChecks.exec_of_failed {kind : ErrorKind} (h : AnsweredByChecks i s)
    (hfailed : firstFailedCheck i s = some kind) : exec i s = .next (s.reject kind) := by
  cases h with
  | rejected hcheck hexec => cases hcheck.symm.trans hfailed; exact hexec
  | accepted hcheck => cases hcheck.symm.trans hfailed

theorem AnsweredByChecks.exec_of_passed (h : AnsweredByChecks i s) (hpassed : firstFailedCheck i s = none) :
    ∃ t v, exec i s = .next t ∧ t.answers = s.answers ++ [⟨0#4, v⟩] := by
  cases h with
  | rejected hcheck => cases hcheck.symm.trans hpassed
  | @accepted u val _ hexec hu => exact ⟨u.accept val, val, hexec, by rw [State.accept_answers, hu]⟩

end

/-- No check reads the inputs still to come. -/
theorem firstFailedCheck_inputs (i : Instr) (s : State) (rest : List Input) :
    firstFailedCheck i { s with inputs := rest } = firstFailedCheck i s := rfl

/-- Settles O55: a word that does not decode is answered IllegalCommand, and one that does by its instruction's checks
(`command_answeredByChecks`) on the state with the word taken. -/
theorem firstFailedCheckGivesTheAnswer : Obligations.FirstFailedCheckGivesTheAnswer := by
  unfold Obligations.FirstFailedCheckGivesTheAnswer
  intro s cw rest hin hptr
  have hanswered {i} (hdec : decode (.command cw) = .ok i) : AnsweredByChecks i { s with inputs := rest } :=
    command_answeredByChecks (isCommand_of_encode_command (encode_of_decode hdec)) hptr
  refine ⟨fun e hdec => ?illegal, fun i kind hdec hfailed => ?rejected, fun i hdec hpassed => ?accepted⟩
  case illegal =>
    rw [step_cons hin, runInput_of_not_decode _ (by simp [hdec])]
    rfl
  case rejected =>
    rw [step_cons hin, runInput_of_decode _ hdec]
    exact (hanswered hdec).exec_of_failed ((firstFailedCheck_inputs i s rest).trans hfailed)
  case accepted =>
    rw [step_cons hin, runInput_of_decode _ hdec]
    exact (hanswered hdec).exec_of_passed ((firstFailedCheck_inputs i s rest).trans hpassed)

end Sys2Proof.Machine
end

section
/-! The reads after reset (70_reset R261), and the end of every transaction under the environment's duty (R266). -/

namespace Sys2Proof.Machine

/-- Settles O10: each command's answer, read at the reset values of 10_state R39. -/
theorem readsAfterReset : Obligations.ReadsAfterReset := by
  unfold Obligations.ReadsAfterReset
  intro s
  refine ⟨exec_crcRd _, ?lrc, ?stat, exec_frRxlen _, exec_frCnt _ _, exec_frCnt _ _,
    exec_frRxpop_of_read_out rfl, exec_frXact_of_not_connected rfl (by simp)⟩
  case lrc =>
    have hsum : (negateSum 0#8).setWidth 16 = 0#16 := by decide
    rw [exec_lrcRd, State.applyReset_sum, hsum]
  case stat => rw [exec_frStat, State.applyReset_status]

/-- The invariant holds at every point of a stream that the run reaches. -/
theorem stateAfter_inv {out : Outside} {s u : State} {n : Nat} (hs : Inv s) (h : stateAfter out s n = .next u) : Inv u := by
  induction n generalizing u with
  | zero => cases h; exact hs
  | succ n ih =>
    obtain ⟨w, hw, hstep⟩ := stateAfter_succ_eq_next h
    have hinv : Inv w := ih hw
    exact invariantIsKeptByEveryStep { w with inputs := (out n).toList } u hinv hstep

/-- A step at which a stream presents an instruction's word runs that instruction. -/
theorem step_presented {i : Instr} (s : State) (h : i.wellFormed = true) :
    step { s with inputs := (some (Input.word (encode i))).toList } = exec i { s with inputs := [] } :=
  stepRunsTheDecodedInstruction _ (encode i) [] i rfl (decode_encode h)

/-- Each event owed ends a transaction in flight: @TIMEOUT always, @IOFAIL because LINK is then CONNECTED (10_state R38
item 3). -/
theorem step_owedEvent {s : State} {i : Option Input} (h : Inv s) (hp : s.phase = .wait) (hi : OwedEvent i) :
    ∃ t, step { s with inputs := i.toList } = .next t ∧ t.phase = .idle := by
  rcases hi with rfl | rfl
  · exact ⟨_, (step_presented s rfl).trans (exec_evTimeout_of_wait hp), rfl⟩
  · exact ⟨_, (step_presented s rfl).trans (exec_evIofail_of_wait (waitInv_of_inv h hp).link hp), rfl⟩

/-- In a silent outside no step changes anything but the inputs held, so PH stays. -/
theorem stateAfter_silent (s : State) (n : Nat) :
    ∃ u, stateAfter (fun _ => none) s n = .next u ∧ u.phase = s.phase := by
  induction n with
  | zero => exact ⟨s, rfl, rfl⟩
  | succ n ih =>
    obtain ⟨u, hu, hphase⟩ := ih
    exact ⟨_, (stateAfter_succ hu).trans (step_nil rfl), hphase⟩

/-- Settles O57: at the point the duty gives, either the block is idle or the event presented there ends the transaction
one point later (`step_owedEvent`). -/
theorem everyTransactionEndsIfTheEnvironmentKeepsItsDuty :
    Obligations.EveryTransactionEndsIfTheEnvironmentKeepsItsDuty := by
  unfold Obligations.EveryTransactionEndsIfTheEnvironmentKeepsItsDuty
  constructor
  · intro out s hs hduty n u hu hwait
    obtain ⟨m, v, hnm, hv, hend⟩ := hduty n u hu hwait
    cases hp : v.phase with
    | idle => exact ⟨m, v, hnm, hv, hp⟩
    | wait =>
      have howed : OwedEvent (out m) := hend.resolve_left (by simp [hp])
      obtain ⟨t, ht, hidle⟩ := step_owedEvent (stateAfter_inv hs hv) hp howed
      exact ⟨m + 1, t, Nat.le_succ_of_le hnm, (stateAfter_succ hv).trans ht, hidle⟩
  · intro s n hwait
    obtain ⟨u, hu, hphase⟩ := stateAfter_silent s n
    exact ⟨u, hu, busy_eq_true_iff.2 (hphase.trans hwait)⟩

end Sys2Proof.Machine
end
